-- ==== Sys2Proof/Word.lean ====
section
/-! DEFINITION. The machine's word types: bytes, bus addresses and transaction words. -/

namespace Sys2Proof

/-- The data width of both buses: 8 bits (spec/00_scope.md R8, DATA_WIDTH). -/
abbrev Byte := BitVec 8

/-- A bus address as a transaction carries it: 16 bits (R8 CPU_ADDR_WIDTH, R80 field `addr`). -/
abbrev Addr := BitVec 16

/-- The transaction word: 32 bits, always (spec/30_encoding.md R80, R90). -/
abbrev TxnWord := BitVec 32

/-- An access-kind tag, an index into the parameter type AccessKind (R80 field `kind`, D25). -/
abbrev AccessKind := BitVec 4

end Sys2Proof
end

