-- ==== Sys2Proof/Config.lean ====
section
/-! DEFINITION. What a run fixes (the OPEN parameters of spec/00_scope.md R8 and spec/10_state.md R37), the small
types those parameters and the state share, and the free values: constants without a body. -/

namespace Sys2Proof

/-- HandlerId (R8): the mapper, or one of the external devices.
DESIGN CHOICE (log 24): R8 leaves the type OPEN, a finite type given with the run; here it is one type for every run, with
an external device for each natural number, of which a run names finitely many. -/
inductive HandlerId where
  | mapper
  | device (n : Nat)
  deriving DecidableEq, Repr, Inhabited

/-- The two directions a device registers for and a conflict is reported in (R220, R260). -/
inductive Direction where
  | read
  | write
  deriving DecidableEq, Repr, Inhabited

/-- The addresses `lo` to `hi`, both included; empty when `lo` is above `hi`. -/
structure AddrRange where
  lo : Addr
  hi : Addr
  deriving DecidableEq, Repr, Inhabited

/-- A device descriptor (spec/44_registry.md R220): its two address sets are unions of ranges. -/
structure Descriptor where
  id : HandlerId
  readAddresses : List AddrRange
  writeAddresses : List AddrRange
  allowOverride : Bool
  deriving DecidableEq, Repr, Inhabited

/-- A device of the host's list (spec/30_encoding.md R89): the mapper, whose descriptor R147 fixes (its ranges are no
parameter), or an external device with the address sets and flag it declares (R273, R220). -/
inductive HostDevice where
  | mapper
  | external (device : Nat) (readAddresses writeAddresses : List AddrRange) (allowOverride : Bool)
  deriving DecidableEq, Repr, Inhabited

/-- RAM_INIT_POLICY (R8, spec/70_reset_and_hazards.md R292): the two forms the source names. -/
inductive RamInitPolicy where
  | allZero
  | randomized
  deriving DecidableEq, Repr, Inhabited

/-- The contract's mirroring modes (spec/40_mapper_contract.md R112). Mapper15 selects only the first two. -/
inductive MirroringMode where
  | vertical
  | horizontal
  | singleScreen0
  | singleScreen1
  | fourScreen
  deriving DecidableEq, Repr, Inhabited

/-- One row of PATCH: a read of `addr` that yields `value` returns `result` instead. A pair of arguments without a
row is left alone, so no rows at all is the identity (R8, R14). -/
structure PatchEntry where
  addr : Addr
  value : Byte
  result : Byte
  deriving DecidableEq, Repr, Inhabited

/-- The parameters of a run (R8, R37), held in the state's field `cfg`, which no step changes.
DESIGN CHOICE (log 1): the page counts are given as the number of the last page, so that R8's "integer >= 1" needs no
side condition. -/
structure Config where
  /-- PRG_PAGE_COUNT - 1. -/
  prgLastPage : Nat
  /-- PRG_IMAGE; an index that is not listed holds 0x00. -/
  prgImage : List Host.Cell
  /-- CHR_PAGE_COUNT - 1. -/
  chrLastPage : Nat
  /-- CHR_WRITABLE: true when CHR is RAM. -/
  chrWritable : Bool
  /-- CHR_IMAGE, used when CHR is ROM; an index that is not listed holds 0x00. -/
  chrImage : List Host.Cell
  /-- RAM_INIT_POLICY. -/
  ramInit : RamInitPolicy
  /-- PRG_BANK_FIELD_MASK; the source's value is 0x7F (R8, D30). -/
  prgBankFieldMask : Byte
  /-- PATCH as a table. -/
  patches : List PatchEntry
  /-- The host's list of devices, whose descriptors REGISTER indexes (spec/30_encoding.md R89). -/
  devices : List HostDevice
  deriving DecidableEq, Repr, Inhabited

/-- PRG_PAGE_SIZE and CHR_PAGE_SIZE: 8 KB (R8). -/
def pageSize : Nat := 0x2000

/-- PRG_PAGE_COUNT (R8): at least 1. -/
def Config.prgPageCount (c : Config) : Nat := c.prgLastPage + 1

/-- CHR_PAGE_COUNT (R8): at least 1. -/
def Config.chrPageCount (c : Config) : Nat := c.chrLastPage + 1

/-- The size of the CHR memory in bytes (R34). -/
def Config.chrSize (c : Config) : Nat := c.chrPageCount * pageSize

/-! ## What nothing in Lean can evaluate -/

/-- FREE VALUE (log 1): the parameters of the machine the host builds. No body: no proof can tell them. -/
opaque Config.host : Config

/-- The parameters in force at reset: the host's, with PRG_BANK_FIELD_MASK at the source's value (D30, log 18). -/
def Config.machine : Config := { Config.host with prgBankFieldMask := 0x7F }

/-- FREE VALUE (log 2): byte `index` of draw number `draw` (R39 "draw": any value).
DESIGN CHOICE (log 2): a draw depends on its number alone, so two instances with the same numbers draw the same bytes, which
hardware need not do (spec/60_exceptions.md R274, R38); unsafe for a comparison of two instances. -/
opaque Config.drawnByte (draw index : Nat) : Byte

/-- FREE VALUE (log 3): an external device's answer to HandlerRead, taken as draw number `draw` (R15). -/
opaque Config.deviceAnswer (draw : Nat) : Byte

/-- FREE VALUE (log 6): the device at an index the host's list does not reach. -/
opaque Config.unlistedDevice (index : BitVec 8) : HostDevice

/-- FREE VALUE (log 13): the stream's mirroring byte for a mode that R241 gives no byte. -/
opaque Config.otherMirroringByte (mode : MirroringMode) : Byte

end Sys2Proof
end

