-- ==== Sys2Proof/Machine/Memory.lean ====
section
/-! DEFINITION. The block's storage arrays (internal RAM, the two nametables, CHR-RAM) as lists of cells in one canonical
form, and the named operations on them. -/

namespace Sys2Proof.Machine

/-- A storage array: (index, byte) cells with rising indexes and no cell that holds what an unlisted index holds. -/
abbrev Memory := List Host.Cell

/-- DESIGN CHOICE (log 19): what an index without a cell holds. It is how contents are written down, not a claim
about memory nothing has written: contents the spec leaves open are drawn (`Memory.drawn`). -/
def Memory.unlisted : Byte := 0x00

/-- The byte at an index. -/
def Memory.read : Memory → Nat → Byte
  | [], _ => Memory.unlisted
  | (a, b) :: m, i => if a = i then b else Memory.read m i

/-- Put a cell in front, unless it holds what an unlisted index holds. -/
def Memory.cons (i : Nat) (v : Byte) (m : Memory) : Memory := if v = Memory.unlisted then m else (i, v) :: m

/-- Write one byte and keep the canonical form. -/
def Memory.write : Memory → Nat → Byte → Memory
  | [], i, v => Memory.cons i v []
  | (a, b) :: m, i, v =>
    if i < a then Memory.cons i v ((a, b) :: m)
    else if i = a then Memory.cons i v m
    else (a, b) :: Memory.write m i v

/-- The canonical form. -/
abbrev Memory.wf (m : Memory) : Prop :=
  m.Pairwise (fun c d => c.1 < d.1) ∧ ∀ c ∈ m, c.2 ≠ Memory.unlisted

/-- Every listed index lies inside an array of `size` bytes. -/
abbrev Memory.within (m : Memory) (size : Nat) : Prop := ∀ c ∈ m, c.1 < size

/-- The array holding the given bytes at `start`, `start + 1`, … -/
def Memory.ofBytesFrom : Nat → List Byte → Memory
  | _, [] => []
  | start, v :: vs => Memory.cons start v (Memory.ofBytesFrom (start + 1) vs)

/-- The array holding the given bytes in ascending index order. -/
def Memory.ofBytes (vs : List Byte) : Memory := Memory.ofBytesFrom 0 vs

/-- The first `size` bytes in ascending index order (spec/45_snapshot.md R240). -/
def Memory.bytes (m : Memory) (size : Nat) : List Byte := (List.range size).map (Memory.read m)

/-- `size` drawn bytes: free values, one for each index (R39 "draw", log 2). Nothing evaluates it, so it is kept folded. -/
@[irreducible] def Memory.drawn (draw size : Nat) : Memory := Memory.ofBytes ((List.range size).map (Config.drawnByte draw))

/-- RAM_SIZE (R8). -/
def ramSize : Nat := 0x0800

/-- NT_SIZE (R8). -/
def nametableSize : Nat := 0x0400

/-- Internal RAM at power-on and hard reset (spec/70_reset_and_hazards.md R292, log 15). -/
def initialRam (c : Config) (draw : Nat) : Memory :=
  match c.ramInit with
  | .allZero => []
  | .randomized => Memory.drawn draw ramSize

/-- CHR memory at power-on and hard reset: drawn when it is RAM (R39, R136); when it is ROM the state holds none. -/
def initialChrRam (c : Config) (draw : Nat) : Memory :=
  if c.chrWritable then Memory.drawn draw c.chrSize else []

end Sys2Proof.Machine
end

