-- ==== Sys2Proof/Machine/Registry.lean ====
section
/-! DEFINITION. The devices' descriptors (spec/44_registry.md R220, spec/41_mapper15.md R147) and the handler tables
(R220-R222, spec/10_state.md R26): plain data, looked up address by address. -/

namespace Sys2Proof.Machine

/-- MAPPER_CPU_RANGE (spec/00_scope.md R8): 0x8000-0xFFFF (D4; the spec's general knowledge, log 23). -/
def mapperRange : AddrRange := { lo := 0x8000, hi := 0xFFFF }

/-- The descriptor Mapper15 is attached with (spec/41_mapper15.md R147, spec/60_exceptions.md R273). -/
def mapperDescriptor : Descriptor where
  id := .mapper
  readAddresses := [mapperRange]
  writeAddresses := [mapperRange]
  allowOverride := false

/-- The descriptor a device of the host's list declares (R220): R147's for the mapper, its own for an external device. -/
def descriptorOf : HostDevice → Descriptor
  | .mapper => mapperDescriptor
  | .external d reads writes allowOverride =>
    { id := .device d, readAddresses := reads, writeAddresses := writes, allowOverride := allowOverride }

/-- One registration of one range of addresses. -/
structure TableEntry where
  range : AddrRange
  id : HandlerId
  deriving DecidableEq, Repr, Inhabited

/-- A handler table: the ranges installed so far, the latest first. An address answers with the first entry that covers
it, so a later registration replaces an earlier one (R222); an address nothing covers has no entry.
DESIGN CHOICE (log 11): ranges stand for the 65536 entries one by one. -/
abbrev HandlerTable := List TableEntry

/-- Whether a range covers an address. -/
def rangeCovers (r : AddrRange) (a : Addr) : Bool := decide (r.lo ≤ a) && decide (a ≤ r.hi)

/-- Whether an address set (a union of ranges) holds an address. -/
def setCovers (set : List AddrRange) (a : Addr) : Bool := set.any fun r => rangeCovers r a

/-- `readTable[a]` or `writeTable[a]`: the handler at an address, or absent. -/
def HandlerTable.lookup : HandlerTable → Addr → Option HandlerId
  | [], _ => none
  | e :: t, a => if rangeCovers e.range a then some e.id else HandlerTable.lookup t a

/-- The lowest address two ranges share. -/
def firstShared (r q : AddrRange) : Option Addr :=
  let a := if r.lo ≤ q.lo then q.lo else r.lo
  if rangeCovers r a && rangeCovers q a then some a else none

/-- The lowest address of a list. -/
def leastAddr : List Addr → Option Addr
  | [] => none
  | a :: as =>
    match leastAddr as with
    | none => some a
    | some b => if a ≤ b then some a else some b

/-- The first address of `set`, in ascending order, at which the table already has an entry (R221, R266). -/
def HandlerTable.firstPresent (t : HandlerTable) (set : List AddrRange) : Option Addr :=
  leastAddr (set.flatMap fun r => t.filterMap fun e => firstShared r e.range)

/-- Install a handler at every address of `set` (R221). -/
def HandlerTable.install (t : HandlerTable) (set : List AddrRange) (id : HandlerId) : HandlerTable :=
  set.map (fun r => { range := r, id := id }) ++ t

/-- The part of a range below an address. -/
def rangeBelow (limit : Addr) (r : AddrRange) : Option AddrRange :=
  if r.lo < limit then some { r with hi := if r.hi < limit then r.hi else limit - 1 } else none

/-- The addresses of `set` below `limit`: those a REGISTER has installed when it meets a conflict at `limit` (R265). -/
def setBelow (limit : Addr) (set : List AddrRange) : List AddrRange := set.filterMap (rangeBelow limit)

end Sys2Proof.Machine
end

