-- ==== Sys2Proof/Machine/State.lean ====
section
/-! DEFINITION. The state of the bus dispatcher (spec/10_state.md), the reasons a step can stop, and the state after
power-on (R39, spec/70_reset_and_hazards.md R290). -/

namespace Sys2Proof.Machine

/-- Why the machine stops. -/
inductive Fault where
  /-- The phase is Failed: no transaction has a step (spec/44_registry.md R226). Raised by every transaction, and by the
  step itself when none is waiting. The spec's own stuck state, so it is safe. -/
  | noStepInFailedPhase
  deriving DecidableEq, Repr

/-- Why the model gives an instruction no meaning. The spec's own refusals (R264) are not here: they are recorded in the
state's field `refused`, and the machine goes on. -/
inductive Refusal where
  /-- An instruction of the table that exec has no meaning for yet. Raised by exec's arm alone. Safe: the run stops. -/
  | notModelled (mnemonic : String)
  deriving DecidableEq, Repr

/-- The lifecycle phase (R27). -/
inductive Phase where
  | setup
  | running
  | failed
  deriving DecidableEq, Repr

/-- The reasons of the refusal record (spec/60_exceptions.md R264). -/
inductive RefuseReason where
  | reservedOp
  | notInSetup
  | badSnapshot
  | badSlot
  | unsupportedMirroring
  deriving DecidableEq, Repr

/-- The fault record of ConfigurationError: the direction and address of the conflict (R28, R260). -/
structure ConfigFault where
  direction : Direction
  addr : Addr
  deriving DecidableEq, Repr

/-- The two address spaces (R50), as the tracing hook names them (R14). -/
inductive Space where
  | cpu
  | vram
  deriving DecidableEq, Repr

/-- An event of the trace log (R11, R275): `kind` is the caller's tag on a read and nothing on a write (C7). -/
structure TraceEvent where
  op : Direction
  space : Space
  addr : Addr
  value : Byte
  kind : Option AccessKind
  deriving DecidableEq, Repr

/-- An event of the device-call log (R29): a HandlerRead or HandlerWrite to external device number `device`. -/
structure DeviceCall where
  op : Direction
  device : Nat
  addr : Addr
  value : Byte
  deriving DecidableEq, Repr

/-- The names of the arrays of a snapshot stream (spec/45_snapshot.md R240, R241); `other` is any foreign name. -/
inductive ArrayName where
  | internalRam
  | nametable0
  | nametable1
  | m15PrgSlot
  | m15ChrSlot
  | m15Mirroring
  | m15ChrRam
  | other (n : Nat)
  deriving DecidableEq, Repr

/-- A snapshot stream: named byte arrays in order (R240). -/
abbrev Stream := List (ArrayName × List Byte)

/-- What a transaction returns to its issuer (spec/30_encoding.md R81, column "returns"). -/
inductive TxnResult where
  /-- Nothing is returned. -/
  | done
  /-- A byte. -/
  | byte (v : Byte)
  /-- TO_ABS_CHR's offset, or NONE. -/
  | offset (o : Option Nat)
  /-- REGISTER succeeded. -/
  | ok
  /-- REGISTER raised ConfigurationError. -/
  | configurationError (f : ConfigFault)
  /-- SNAPSHOT's stream. -/
  | stream (st : Stream)
  /-- The transaction was refused. -/
  | refused (r : RefuseReason)
  deriving DecidableEq, Repr

/-- Everything the spec gives the block, and the model's own bookkeeping, as plain data. -/
structure State where
  /-- The parameters of the run (R8, R37): no step changes them. -/
  cfg : Config
  /-- Internal RAM, 2048 bytes (R23). -/
  ram : Memory
  /-- Nametable 0, 1024 bytes (R24). -/
  nt0 : Memory
  /-- Nametable 1, 1024 bytes (R24). -/
  nt1 : Memory
  /-- The open-bus latch (R25). -/
  openBus : Byte
  /-- The read handlers (R26). -/
  readTable : HandlerTable
  /-- The write handlers (R26). -/
  writeTable : HandlerTable
  /-- The lifecycle phase (R27). -/
  phase : Phase
  /-- The fault record (R28). -/
  cfgFault : Option ConfigFault
  /-- The refusal record: the reason of the first refusal (R28). -/
  refused : Option RefuseReason
  /-- Mapper15's PRG slot registers (R31; log 14: numbers, not a fixed width). -/
  prgSlot : Vector Nat 4
  /-- Mapper15's CHR slot register (R32). -/
  chrSlot : Nat
  /-- The mirroring register (R33), over the contract's five modes (log 13). -/
  mirroring : MirroringMode
  /-- CHR-RAM (R34); empty and unused when CHR is ROM. -/
  chrRam : Memory
  /-- The trace log, oldest first (R29). -/
  trace : List TraceEvent
  /-- The device-call log, oldest first (R29). -/
  deviceLog : List DeviceCall
  /-- The model's own (log 16): the addresses given to NotifyVramAddressChange, oldest first. -/
  notifyLog : List Addr
  /-- The model's own (log 16): what the transactions returned, oldest first (R12). -/
  results : List TxnResult
  /-- The model's own (log 4): the transaction words issued and not yet taken, next first (R21). -/
  pending : List TxnWord
  /-- The model's own (log 5): the streams handed over for the RESTOREs to come, next first (R89). -/
  streams : List Stream
  /-- The model's own (log 3): device answers fixed in advance, next first; with none left an answer is free. -/
  answers : List Byte
  /-- The model's own (log 2): the number of the next draw. -/
  draws : Nat
  deriving DecidableEq, Repr

/-- The state after construction and Initialize (R290, R39) for given parameters. Draws 0 to 4 are RAM (when the policy
draws it), the two nametables, the latch and CHR-RAM. -/
def State.powerOn (c : Config) : State where
  cfg := c
  ram := initialRam c 0
  nt0 := Memory.drawn 1 nametableSize
  nt1 := Memory.drawn 2 nametableSize
  openBus := Config.drawnByte 3 0
  readTable := []
  writeTable := []
  phase := .setup
  cfgFault := none
  refused := none
  prgSlot := #v[0 % c.prgPageCount, 1 % c.prgPageCount, 2 % c.prgPageCount, 3 % c.prgPageCount]
  chrSlot := 0
  mirroring := .vertical
  chrRam := initialChrRam c 4
  trace := []
  deviceLog := []
  notifyLog := []
  results := []
  pending := []
  streams := []
  answers := []
  draws := 5

/-- The machine right after power-on, with the parameters of the host's machine (log 1). No transaction is waiting:
how one comes to run is log 4. -/
def State.reset : State := State.powerOn Config.machine

end Sys2Proof.Machine
end

