-- ==== Sys2Proof/Machine/Flags.lean ====
section
/-! DEFINITION. One-bit state. The block has no condition codes and no status flags (spec/10_state.md R22): the one mode
bit is the mirroring register, and this is the only computation of it. -/

namespace Sys2Proof.Machine

/-- Bit 6 of a command byte: set means Horizontal, clear means Vertical (spec/41_mapper15.md R131). -/
def mirroringOf (value : Byte) : MirroringMode := if value.getLsbD 6 then .horizontal else .vertical

/-- The mirroring register's byte in a snapshot: 0x00 Vertical, 0x01 Horizontal (spec/45_snapshot.md R241). The other
modes have no byte there and Mapper15 cannot reach them: a free value (log 13). -/
def mirroringByte : MirroringMode → Byte
  | .vertical => 0x00
  | .horizontal => 0x01
  | m => Config.otherMirroringByte m

/-- The mode a snapshot's byte names (spec/45_snapshot.md R242). -/
def mirroringOfByte (v : Byte) : MirroringMode := if v = 0x01 then .horizontal else .vertical

end Sys2Proof.Machine
end

