-- ==== Sys2Proof/Syntax.lean ====
section
/-! DEFINITION. The instructions: one constructor for each row of spec/opcode_table.json. -/

namespace Sys2Proof

/-- A transaction (spec/30_encoding.md R81) or a Mapper15 command (R83). Fields a row does not use are ignored by the
decoder and are no part of the instruction. -/
inductive Instr where
  /-- READ: a CPU-bus read (R160). -/
  | read (addr : Addr) (kind : AccessKind)
  /-- WRITE: a CPU-bus write (R162). -/
  | write (addr : Addr) (data : Byte)
  /-- DBG_READ: a CPU-bus read nobody observes (R161). -/
  | dbgRead (addr : Addr)
  /-- DBG_WRITE: a CPU-bus write that is not traced (R163). -/
  | dbgWrite (addr : Addr) (data : Byte)
  /-- READ_VRAM: a VRAM-bus read (R191). -/
  | readVram (addr : Addr) (kind : AccessKind)
  /-- WRITE_VRAM: a VRAM-bus write (R192). -/
  | writeVram (addr : Addr) (data : Byte)
  /-- DBG_READ_VRAM: a VRAM-bus read nobody observes (R193). -/
  | dbgReadVram (addr : Addr)
  /-- GET_OPEN_BUS: the latch under a mask (R164). -/
  | getOpenBus (mask : Byte)
  /-- TO_ABS_CHR: the CHR offset of a VRAM address (R194). -/
  | toAbsChr (addr : Addr)
  /-- CPU_CLOCK: the mapper's per-cycle hook (R108). -/
  | cpuClock
  /-- RESET: the console's reset, soft or hard (R291). -/
  | reset (isSoft : Bool)
  /-- REGISTER: a device registration, by the index of its descriptor (R221). -/
  | register (index : BitVec 8)
  /-- SNAPSHOT (R240). -/
  | snapshot
  /-- RESTORE (R242). -/
  | restore
  /-- The reserved operation code 0xE (R88). -/
  | reservedE
  /-- The reserved operation code 0xF (R88). -/
  | reservedF
  /-- M15_MODE0: a WRITE at an address `1 mid 00` (R132). -/
  | m15Mode0 (mid : BitVec 13) (value : Byte)
  /-- M15_MODE1: a WRITE at an address `1 mid 01` (R133). -/
  | m15Mode1 (mid : BitVec 13) (value : Byte)
  /-- M15_MODE2: a WRITE at an address `1 mid 10` (R134). -/
  | m15Mode2 (mid : BitVec 13) (value : Byte)
  /-- M15_MODE3: a WRITE at an address `1 mid 11` (R133). -/
  | m15Mode3 (mid : BitVec 13) (value : Byte)
  deriving DecidableEq, Repr

end Sys2Proof
end

