-- ==== Sys2Proof/WellFormed.lean ====
section
/-! DEFINITION. Which instructions are some word's own reading. -/

namespace Sys2Proof

/-- The one check: a WRITE to MAPPER_CPU_RANGE (address bit 15 set) is spelled by a Mapper15 row, so the constructor
`write` stands for the other addresses (spec/opcode_table.json, rows M15_MODE0 to M15_MODE3; log 10). Every other
operand fills its field exactly, so there is nothing more to check. -/
abbrev Instr.WellFormed : Instr → Prop
  | .write addr _ => addr.getLsbD 15 = false
  | _ => True

end Sys2Proof
end

