-- ==== Sys2Proof/Decode.lean ====
section
/-! DEFINITION. Words to instructions and back: the fields of spec/30_encoding.md R80, the operation codes of R81 and the
Mapper15 rows of spec/opcode_table.json. -/

namespace Sys2Proof

/-! ## Fields of a transaction word (R80, R82) -/

/-- `op = word[31:28]`. -/
def opField (w : TxnWord) : BitVec 4 := w.extractLsb' 28 4

/-- `kind = word[27:24]`. -/
def kindField (w : TxnWord) : BitVec 4 := w.extractLsb' 24 4

/-- `addr = word[23:8]`. -/
def addrField (w : TxnWord) : Addr := w.extractLsb' 8 16

/-- `data = word[7:0]`. -/
def dataField (w : TxnWord) : Byte := w.extractLsb' 0 8

/-- `isSoft = word[24]` (R82). -/
def softBit (w : TxnWord) : Bool := w.getLsbD 24

/-- The word of four fields (R80). -/
def txnWord (op kind : BitVec 4) (addr : Addr) (data : Byte) : TxnWord := op ++ kind ++ addr ++ data

/-! ## Mapper15 addresses (R83) -/

/-- The address `1 mid sel` of MAPPER_CPU_RANGE: `mid` are the ignored bits 14:2, `sel` the banking mode. -/
def m15Addr (mid : BitVec 13) (sel : BitVec 2) : Addr := 1#1 ++ mid ++ sel

/-- The ignored bits `addr[14:2]`. -/
def m15Mid (addr : Addr) : BitVec 13 := addr.extractLsb' 2 13

/-- The banking mode `addr[1:0]`. -/
def m15Sel (addr : Addr) : BitVec 2 := addr.extractLsb' 0 2

/-! ## The decoder -/

/-- A word with `op` = 1: a Mapper15 row when address bit 15 is set, else WRITE. -/
def decodeWrite (addr : Addr) (data : Byte) : Instr :=
  if addr.getLsbD 15 then
    match (m15Sel addr).toNat with
    | 0 => .m15Mode0 (m15Mid addr) data
    | 1 => .m15Mode1 (m15Mid addr) data
    | 2 => .m15Mode2 (m15Mid addr) data
    | _ => .m15Mode3 (m15Mid addr) data
  else .write addr data

/-- The instruction a word spells. Every word spells one: the two reserved codes are rows of the table and are refused
by name in their meanings (R88). A field the row does not use is ignored (R81). The last arm is `op` = 0xF, the one
4-bit value left. -/
def decode (w : TxnWord) : Instr :=
  match (opField w).toNat with
  | 0x0 => .read (addrField w) (kindField w)
  | 0x1 => decodeWrite (addrField w) (dataField w)
  | 0x2 => .dbgRead (addrField w)
  | 0x3 => .dbgWrite (addrField w) (dataField w)
  | 0x4 => .readVram (addrField w) (kindField w)
  | 0x5 => .writeVram (addrField w) (dataField w)
  | 0x6 => .dbgReadVram (addrField w)
  | 0x7 => .getOpenBus (dataField w)
  | 0x8 => .toAbsChr (addrField w)
  | 0x9 => .cpuClock
  | 0xA => .reset (softBit w)
  | 0xB => .register (dataField w)
  | 0xC => .snapshot
  | 0xD => .restore
  | 0xE => .reservedE
  | _ => .reservedF

/-! ## The encoder -/

/-- The word of an instruction, with 0 in every field its row does not use (R80, R81). -/
def encode : Instr → TxnWord
  | .read addr kind => txnWord 0x0 kind addr 0
  | .write addr data => txnWord 0x1 0 addr data
  | .dbgRead addr => txnWord 0x2 0 addr 0
  | .dbgWrite addr data => txnWord 0x3 0 addr data
  | .readVram addr kind => txnWord 0x4 kind addr 0
  | .writeVram addr data => txnWord 0x5 0 addr data
  | .dbgReadVram addr => txnWord 0x6 0 addr 0
  | .getOpenBus mask => txnWord 0x7 0 0 mask
  | .toAbsChr addr => txnWord 0x8 0 addr 0
  | .cpuClock => txnWord 0x9 0 0 0
  | .reset isSoft => txnWord 0xA (if isSoft then 1 else 0) 0 0
  | .register index => txnWord 0xB 0 0 index
  | .snapshot => txnWord 0xC 0 0 0
  | .restore => txnWord 0xD 0 0 0
  | .reservedE => txnWord 0xE 0 0 0
  | .reservedF => txnWord 0xF 0 0 0
  | .m15Mode0 mid value => txnWord 0x1 0 (m15Addr mid 0) value
  | .m15Mode1 mid value => txnWord 0x1 0 (m15Addr mid 1) value
  | .m15Mode2 mid value => txnWord 0x1 0 (m15Addr mid 2) value
  | .m15Mode3 mid value => txnWord 0x1 0 (m15Addr mid 3) value

/-! ## The table's own words -/

/-- The bits a row of spec/opcode_table.json fixes: its `mask`. -/
def Instr.tableMask : Instr → TxnWord
  | .m15Mode0 _ _ | .m15Mode1 _ _ | .m15Mode2 _ _ | .m15Mode3 _ _ => 0xF0800300
  | .read _ _ | .write _ _ | .dbgRead _ | .dbgWrite _ _ | .readVram _ _ | .writeVram _ _ | .dbgReadVram _
  | .getOpenBus _ | .toAbsChr _ | .cpuClock | .reset _ | .register _ | .snapshot | .restore | .reservedE
  | .reservedF => 0xF0000000

/-- The value of those bits: the row's `match`. -/
def Instr.tableMatch : Instr → TxnWord
  | .read _ _ => 0x00000000
  | .write _ _ => 0x10000000
  | .dbgRead _ => 0x20000000
  | .dbgWrite _ _ => 0x30000000
  | .readVram _ _ => 0x40000000
  | .writeVram _ _ => 0x50000000
  | .dbgReadVram _ => 0x60000000
  | .getOpenBus _ => 0x70000000
  | .toAbsChr _ => 0x80000000
  | .cpuClock => 0x90000000
  | .reset _ => 0xA0000000
  | .register _ => 0xB0000000
  | .snapshot => 0xC0000000
  | .restore => 0xD0000000
  | .reservedE => 0xE0000000
  | .reservedF => 0xF0000000
  | .m15Mode0 _ _ => 0x10800000
  | .m15Mode1 _ _ => 0x10800100
  | .m15Mode2 _ _ => 0x10800200
  | .m15Mode3 _ _ => 0x10800300

/-- The instruction the decoder reads from a word given as a number with `nbits` bits. An instruction is exactly one
32-bit word (R90), so a longer one is no instruction and a shorter one has zeros above. -/
def decodeTableWord (nbits w : Nat) : Option Instr :=
  if nbits ≤ 32 then some (decode (BitVec.ofNat 32 (w % 2 ^ nbits))) else none

end Sys2Proof
end

