-- ==== Sys2Proof/Machine/Operands.lean ====
section
/-! DEFINITION. Operand forms: what the bits of an address or of a command byte select, and the byte forms of the
snapshot's numbers. No state is written here. -/

namespace Sys2Proof.Machine

/-! ## CPU-bus addresses (spec/20_memory.md R57, spec/30_encoding.md R86) -/

/-- Internal RAM answers, whatever the handler tables hold. -/
def isRamAddr (a : Addr) : Bool := decide (a ≤ 0x1FFF)

/-- RAM_MIRROR_MASK (R8): the RAM byte behind a CPU address. -/
def ramIndex (a : Addr) : Nat := (a &&& 0x07FF).toNat

/-- MAPPER_CPU_RANGE (R8), where R137 says what a PRG read gives. -/
def isMapperAddr (a : Addr) : Bool := decide (0x8000 ≤ a)

/-- The PRG slot behind an address of the window: `(addr - PRG_WINDOW_BASE) >> 13` (R137). -/
def prgSlotOf (a : Addr) : Fin 4 := Fin.ofNat 4 ((a.toNat - 0x8000) >>> 13)

/-- The offset inside the slot's page (R137). -/
def prgOffset (a : Addr) : Nat := (a &&& 0x1FFF).toNat

/-! ## VRAM-bus addresses (spec/43_vram_bus.md R190, spec/30_encoding.md R87) -/

/-- NormVram: mask to 14 bits, then fold 0x3000-0x3FFF onto 0x2000-0x2FFF (R190). -/
def normVram (a : Addr) : Addr :=
  let m := a &&& 0x3FFF
  if 0x3000 ≤ m then m - 0x1000 else m

/-- A normalized address of the CHR half. -/
def isChrAddr (n : Addr) : Bool := decide (n ≤ 0x1FFF)

/-- The nametable quadrant `n[11:10]`. -/
def quadrant (n : Addr) : Fin 4 := Fin.ofNat 4 (n.extractLsb' 10 2).toNat

/-- The byte inside a nametable: `n & 0x3FF`. -/
def nametableIndex (n : Addr) : Nat := (n &&& 0x03FF).toNat

/-- The quadrant table M(mode, q) (spec/40_mapper_contract.md R112); no table for four-screen. -/
def nametableMap : MirroringMode → Option (Vector (Fin 2) 4)
  | .vertical => some #v[0, 1, 0, 1]
  | .horizontal => some #v[0, 0, 1, 1]
  | .singleScreen0 => some #v[0, 0, 0, 0]
  | .singleScreen1 => some #v[1, 1, 1, 1]
  | .fourScreen => none

/-! ## The Mapper15 command byte (R83, R85) -/

/-- `subBank = value >> 7`. -/
def subBank (value : Byte) : Nat := (value >>> 7).toNat

/-- `bank = (value & PRG_BANK_FIELD_MASK) << 1`. -/
def bank (mask value : Byte) : Nat := (value &&& mask).toNat <<< 1

/-! ## PATCH (R8, R14) -/

/-- The value-patch hook: the first row for the address and value, else the value itself. -/
def patchByte : List PatchEntry → Addr → Byte → Byte
  | [], _, v => v
  | p :: ps, a, v => if p.addr = a ∧ p.value = v then p.result else patchByte ps a v

/-! ## 16-bit little-endian numbers of the snapshot (spec/45_snapshot.md R241) -/

/-- A number as two bytes, low byte first. -/
def le16 (n : Nat) : List Byte := [BitVec.ofNat 8 n, BitVec.ofNat 8 (n / 256)]

/-- The `k`-th 16-bit number of an array. -/
def fromLe16 (vs : List Byte) (k : Nat) : Nat := (vs.getD (2 * k) 0).toNat + 256 * (vs.getD (2 * k + 1) 0).toNat

end Sys2Proof.Machine
end

