-- ==== Sys2Proof/Machine/Ops.lean ====
section
/-! DEFINITION. The named operations every transaction is made of: the phase step, results and logs, refusals, the one
fault, the free values, and taking the next word. -/

namespace Sys2Proof.Machine

/-! ## The next transaction (spec/10_state.md R21, log 4) -/

/-- The next word and the state without it, if one is waiting. -/
def State.fetch (s : State) : Option (TxnWord × State) :=
  match s.pending with
  | [] => none
  | w :: rest => some (w, { s with pending := rest })

/-- No word is waiting: nothing happens, unless the block is stuck (spec/44_registry.md R226). -/
def State.idle (s : State) : Host.Outcome State Fault Refusal :=
  if s.phase = .failed then .fault .noStepInFailedPhase else .next s

/-! ## Phases (spec/44_registry.md R225, R226) -/

/-- `phaseStep`: the first transaction that is not REGISTER ends the Setup phase (R225). -/
def State.phaseStep (s : State) : State :=
  match s.phase with
  | .setup => { s with phase := .running }
  | .running | .failed => s

/-- A transaction other than REGISTER: no step in Failed (R226), else the phase step and then its own effect. -/
def State.transact (s : State) (effect : State → State) : Host.Outcome State Fault Refusal :=
  if s.phase = .failed then .fault .noStepInFailedPhase else .next (effect s.phaseStep)

/-! ## Results and logs (spec/00_scope.md R11, R12) -/

/-- Return a result to the issuer. -/
def State.answer (r : TxnResult) (s : State) : State := { s with results := s.results ++ [r] }

/-- Append an event to the trace log (R11 `Trace`). -/
def State.traced (e : TraceEvent) (s : State) : State := { s with trace := s.trace ++ [e] }

/-- Append an event to the device-call log (R29). -/
def State.deviceCalled (c : DeviceCall) (s : State) : State := { s with deviceLog := s.deviceLog ++ [c] }

/-- Set the open-bus latch (R25). -/
def State.setOpenBus (v : Byte) (s : State) : State := { s with openBus := v }

/-! ## Refusals (spec/60_exceptions.md R264) -/

/-- The reason codes of R264. -/
def RefuseReason.code : RefuseReason → Nat
  | .reservedOp => 0x10
  | .notInSetup => 0x11
  | .badSnapshot => 0x12
  | .badSlot => 0x13
  | .unsupportedMirroring => 0x14

/-- Set the refusal record, if no earlier refusal has (R28, R264). -/
def State.recordRefusal (r : RefuseReason) (s : State) : State := { s with refused := s.refused.or (some r) }

/-- Refuse the transaction: the record, and the refusal as its result; no other effect (R264, log 7). -/
def State.refuse (r : RefuseReason) (s : State) : State := (s.recordRefusal r).answer (.refused r)

/-! ## ConfigurationError, the one fault (R260, R265) -/

/-- The cause code of ConfigurationError (R260). -/
def configurationErrorCode : Nat := 1

/-- Entry into ConfigurationError: record the conflict, go to Failed, return the error to the caller. There is no handler,
no vector, no saved state (R265) and no return from it (R267): no operation leaves the phase Failed. -/
def State.raiseConfigurationError (f : ConfigFault) (s : State) : State :=
  State.answer (.configurationError f) { s with cfgFault := some f, phase := .failed }

/-! ## Free values (log 2, log 3) -/

/-- One drawn byte, and the state with the draw used up. -/
def State.drawByte (s : State) : Byte × State := (Config.drawnByte s.draws 0, { s with draws := s.draws + 1 })

/-- An external device's answer: the next one fixed in advance, else a free value (R15, log 3). -/
def State.deviceAnswer (s : State) : Byte × State :=
  match s.answers with
  | v :: rest => (v, { s with answers := rest })
  | [] => (Config.deviceAnswer s.draws, { s with draws := s.draws + 1 })

/-! ## Storage -/

/-- `ram[i] <- v` (R23). -/
def State.setRam (i : Nat) (v : Byte) (s : State) : State := { s with ram := s.ram.write i v }

/-- `nt[p]` (R24). -/
def State.nt (s : State) (p : Fin 2) : Memory := if p = 0 then s.nt0 else s.nt1

/-- `nt[p][i] <- v` (R24). -/
def State.setNt (p : Fin 2) (i : Nat) (v : Byte) (s : State) : State :=
  if p = 0 then { s with nt0 := s.nt0.write i v } else { s with nt1 := s.nt1.write i v }

/-- `chr[i]`: CHR-RAM, or the CHR-ROM image (R34). -/
def State.chrByte (s : State) (i : Nat) : Byte :=
  if s.cfg.chrWritable then s.chrRam.read i else Memory.read s.cfg.chrImage i

/-- `chr[i] <- v`: a CHR-ROM drops the byte (R142, spec/60_exceptions.md R262). -/
def State.setChr (i : Nat) (v : Byte) (s : State) : State :=
  if s.cfg.chrWritable then { s with chrRam := s.chrRam.write i v } else s

/-- `prg[i]` (R35). -/
def State.prgByte (s : State) (i : Nat) : Byte := Memory.read s.cfg.prgImage i

/-- The value-patch hook with the run's PATCH (R8, R14). -/
def State.patch (s : State) (a : Addr) (v : Byte) : Byte := patchByte s.cfg.patches a v

end Sys2Proof.Machine
end

