-- ==== Sys2Proof/Machine/MapperContract.lean ====
section
/-! DEFINITION. The Mapper Contract (spec/40_mapper_contract.md R100-R113) as Mapper15 fulfils it
(spec/41_mapper15.md R130-R147). None of these is a transaction: the bus dispatcher calls them (R91). -/

namespace Sys2Proof.Machine

/-! ## Selecting pages and mirroring -/

/-- SelectPrgPage (R103): the page index wraps; a slot the mapper lacks is refused (BadSlot). -/
def State.selectPrgPage (slot page : Nat) (s : State) : State :=
  if h : slot < 4 then { s with prgSlot := s.prgSlot.set slot (page % s.cfg.prgPageCount) h }
  else s.recordRefusal .badSlot

/-- SelectChrPage (R104): Mapper15 has the one slot 0. -/
def State.selectChrPage (slot page : Nat) (s : State) : State :=
  if slot = 0 then { s with chrSlot := page % s.cfg.chrPageCount } else s.recordRefusal .badSlot

/-- SetMirroringType (R105). -/
def State.setMirroringType (mode : MirroringMode) (s : State) : State := { s with mirroring := mode }

/-- The four SelectPrgPage calls of a command, in slot order (R135). -/
def State.selectPrgPages (p0 p1 p2 p3 : Nat) (s : State) : State :=
  (((s.selectPrgPage 0 p0).selectPrgPage 1 p1).selectPrgPage 2 p2).selectPrgPage 3 p3

/-! ## The control register (R131-R135) -/

/-- Mode 0: four consecutive slots, XOR-indexed (R132). -/
def State.bankMode0 (value : Byte) (s : State) : State :=
  let sub := subBank value
  let b := bank s.cfg.prgBankFieldMask value
  s.selectPrgPages ((b + 0) ^^^ sub) ((b + 1) ^^^ sub) ((b + 2) ^^^ sub) ((b + 3) ^^^ sub)

/-- Mode 1/3: `d` (address bit 1) decides slot 2 (R133). -/
def State.bankMode13 (d : Bool) (value : Byte) (s : State) : State :=
  let b := bank s.cfg.prgBankFieldMask value ||| subBank value
  s.selectPrgPages b (b + 1) (if d then b else b + 1) (b + 1)

/-- Mode 2: one page in all four slots (R134). -/
def State.bankMode2 (value : Byte) (s : State) : State :=
  let b := bank s.cfg.prgBankFieldMask value ||| subBank value
  s.selectPrgPages b b b b

/-- WriteRegister (R135): mirroring first, then the mode that address bits 1:0 select (R84). -/
def State.writeRegister (a : Addr) (value : Byte) (s : State) : State :=
  let t := s.setMirroringType (mirroringOf value)
  match (m15Sel a).toNat with
  | 0 => t.bankMode0 value
  | 2 => t.bankMode2 value
  | _ => t.bankMode13 (a.getLsbD 1) value

/-! ## Power-on and reset -/

/-- INIT_REG_ADDR (R8, D6). -/
def initRegAddr : Addr := 0x8000

/-- Mapper15's Initialize (R130): CHR page 0 and a register write of value 0. -/
def State.mapperPowerOn (s : State) : State := (s.selectChrPage 0 0).writeRegister initRegAddr 0x00

/-- Draw CHR-RAM anew, if there is any (R102, R136). -/
def State.redrawChrRam (s : State) : State :=
  if s.cfg.chrWritable then { s with chrRam := initialChrRam s.cfg s.draws, draws := s.draws + 1 } else s

/-- Mapper15's Reset (R136): a hard reset draws CHR-RAM; both kinds return to the power-on banking. -/
def State.mapperReset (isSoft : Bool) (s : State) : State :=
  if isSoft then s.mapperPowerOn else s.redrawChrRam.mapperPowerOn

/-! ## Translation -/

/-- The PRG byte the slots give for an address of the window (R137). -/
def State.prgRead (s : State) (a : Addr) : Byte :=
  s.prgByte (s.prgSlot[prgSlotOf a] * pageSize + prgOffset a)

/-- The mapper's CPU read handler (R137). Below 0x8000, where no registration puts it (R147), the spec gives no byte: a free
value (log 12). -/
def State.mapperCpuRead (s : State) (a : Addr) : Byte × State :=
  if isMapperAddr a then (s.prgRead a, s) else s.drawByte

/-- The physical nametable of a normalized address under the current mirroring, if the mode has a map (R112). -/
def State.nametableOf (s : State) (n : Addr) : Option (Fin 2) :=
  (nametableMap s.mirroring).map fun m => m[quadrant n]

/-- The CHR byte index of a normalized address (R58, R141). -/
def State.chrIndex (s : State) (n : Addr) : Nat := s.chrSlot * pageSize + n.toNat

/-- ReadVram (R106, R141); none where the mirroring mode has no map (R112, UnsupportedMirroring). -/
def State.mapperReadVram (s : State) (n : Addr) : Option Byte :=
  if isChrAddr n then some (s.chrByte (s.chrIndex n))
  else (s.nametableOf n).map fun p => (s.nt p).read (nametableIndex n)

/-- WriteVram (R107, R142); none where the mirroring mode has no map (R112, UnsupportedMirroring). -/
def State.mapperWriteVram (n : Addr) (v : Byte) (s : State) : Option State :=
  if isChrAddr n then some (s.setChr (s.chrIndex n) v)
  else (s.nametableOf n).map fun p => s.setNt p (nametableIndex n) v

/-- NotifyVramAddressChange (R109): Mapper15 does nothing (R144). The model keeps the address it was given (log 16). -/
def State.mapperNotify (n : Addr) (s : State) : State := { s with notifyLog := s.notifyLog ++ [n] }

/-- ProcessCpuClock (R108): Mapper15 does nothing (R145). -/
def State.mapperCpuClock (s : State) : State := s

/-- ToAbsoluteChrAddress (R111, R146): the CHR offset of an address masked to 14 bits, NONE outside CHR. -/
def State.mapperAbsChr (s : State) (a : Addr) : Option Nat :=
  let n := a &&& 0x3FFF
  if isChrAddr n then some (s.chrIndex n) else none

end Sys2Proof.Machine
end

