-- ==== Sys2Proof/Machine/CpuBus.lean ====
section
/-! DEFINITION. The CPU-bus transactions READ, WRITE, DBG_READ, DBG_WRITE and GET_OPEN_BUS (spec/42_cpu_bus.md). -/

namespace Sys2Proof.Machine

/-! ## Routing (spec/30_encoding.md R86) -/

/-- HandlerRead(h, addr) (spec/00_scope.md R11): the mapper's PRG read, or a logged call of an external device, whose
answer is a draw (R15). -/
def State.handlerRead (h : HandlerId) (a : Addr) (s : State) : Byte × State :=
  match h with
  | .mapper => s.mapperCpuRead a
  | .device d =>
    let (v, t) := s.deviceAnswer
    (v, t.deviceCalled { op := .read, device := d, addr := a, value := v })

/-- Where a CPU read gets its byte: RAM, the address's read handler, or the open-bus latch. -/
def State.cpuRoute (a : Addr) (s : State) : Byte × State :=
  if isRamAddr a then (s.ram.read (ramIndex a), s)
  else
    match s.readTable.lookup a with
    | some h => s.handlerRead h a
    | none => (s.openBus, s)

/-- Where a CPU write goes: RAM, the address's write handler, or nowhere. `command` is what the mapper does with the
write (WriteRegister, R138); an external device's write is a logged event alone (R11). -/
def State.routeWrite (command : State → State) (a : Addr) (v : Byte) (s : State) : State :=
  if isRamAddr a then s.setRam (ramIndex a) v
  else
    match s.writeTable.lookup a with
    | some .mapper => command s
    | some (.device d) => s.deviceCalled { op := .write, device := d, addr := a, value := v }
    | none => s

/-- The traced write of R162: the event first, then the routing. -/
def State.tracedWrite (command : State → State) (a : Addr) (v : Byte) (s : State) : State :=
  (s.traced { op := .write, space := .cpu, addr := a, value := v, kind := none }).routeWrite command a v

/-! ## Meanings -/

/-- READ (R160): route, patch, trace, set the latch, return. -/
def execRead (addr : Addr) (kind : AccessKind) (s : State) : Host.Outcome State Fault Refusal :=
  s.transact fun s =>
    let (raw, t) := s.cpuRoute addr
    let v := t.patch addr raw
    ((t.traced { op := .read, space := .cpu, addr := addr, value := v, kind := some kind }).setOpenBus v).answer
      (.byte v)

/-- DBG_READ (R161): the same routing and patch, with no trace and no latch update. -/
def execDbgRead (addr : Addr) (s : State) : Host.Outcome State Fault Refusal :=
  s.transact fun s =>
    let (raw, t) := s.cpuRoute addr
    t.answer (.byte (t.patch addr raw))

/-- WRITE (R162). -/
def execWrite (addr : Addr) (data : Byte) (s : State) : Host.Outcome State Fault Refusal :=
  s.transact fun s => (s.tracedWrite (State.writeRegister addr data) addr data).answer .done

/-- DBG_WRITE (R163): as WRITE without the trace. -/
def execDbgWrite (addr : Addr) (data : Byte) (s : State) : Host.Outcome State Fault Refusal :=
  s.transact fun s => (s.routeWrite (State.writeRegister addr data) addr data).answer .done

/-- GET_OPEN_BUS (R164). -/
def execGetOpenBus (mask : Byte) (s : State) : Host.Outcome State Fault Refusal :=
  s.transact fun s => s.answer (.byte (s.openBus &&& mask))

end Sys2Proof.Machine
end

