-- ==== Sys2Proof/Machine/Lifecycle.lean ====
section
/-! DEFINITION. The setup and lifecycle transactions: CPU_CLOCK (spec/40_mapper_contract.md R108), RESET
(spec/70_reset_and_hazards.md R291), REGISTER (spec/44_registry.md R221), and the two reserved codes
(spec/30_encoding.md R88). -/

namespace Sys2Proof.Machine

/-! ## Reset -/

/-- What a hard reset does to the dispatcher's own storage (R291): RAM takes the policy's pattern, the nametables and the
latch are drawn. -/
def State.hardResetDispatcher (s : State) : State :=
  { s with
    ram := initialRam s.cfg s.draws
    nt0 := Memory.drawn (s.draws + 1) nametableSize
    nt1 := Memory.drawn (s.draws + 2) nametableSize
    openBus := Config.drawnByte (s.draws + 3) 0
    draws := s.draws + 4 }

/-- The console reset (R291): the dispatcher's part when hard, then the mapper's. -/
def State.consoleReset (isSoft : Bool) (s : State) : State :=
  if isSoft then s.mapperReset true else s.hardResetDispatcher.mapperReset false

/-! ## Registration -/

/-- The descriptor of the device at an index of the host's list (R89); beyond its end a free device's (log 6). -/
def State.descriptorAt (s : State) (index : BitVec 8) : Descriptor :=
  descriptorOf ((s.cfg.devices[index.toNat]?).getD (Config.unlistedDevice index))

/-- The first conflict of one direction: none when the descriptor overrides (R221, R222). -/
def conflictOf (t : HandlerTable) (set : List AddrRange) (allowOverride : Bool) : Option Addr :=
  if allowOverride then none else t.firstPresent set

/-- The write half of REGISTER (R221): at a conflict the addresses before it are installed, then the error is raised. -/
def State.registerWrites (d : Descriptor) (s : State) : State :=
  match conflictOf s.writeTable d.writeAddresses d.allowOverride with
  | some a =>
    State.raiseConfigurationError { direction := .write, addr := a }
      { s with writeTable := s.writeTable.install (setBelow a d.writeAddresses) d.id }
  | none => State.answer .ok { s with writeTable := s.writeTable.install d.writeAddresses d.id }

/-- RegisterIoDevice (R221, R266): the read addresses, up to a conflict if there is one, then the write addresses. -/
def State.registerDevice (d : Descriptor) (s : State) : State :=
  match conflictOf s.readTable d.readAddresses d.allowOverride with
  | some a =>
    State.raiseConfigurationError { direction := .read, addr := a }
      { s with readTable := s.readTable.install (setBelow a d.readAddresses) d.id }
  | none => State.registerWrites d { s with readTable := s.readTable.install d.readAddresses d.id }

/-- A word that spells no transaction (R88): refused, with no phase step, since R264 gives it no other effect; in Failed
there is no step at all (log 9). -/
def State.refuseReserved (s : State) : Host.Outcome State Fault Refusal :=
  if s.phase = .failed then .fault .noStepInFailedPhase else .next (s.refuse .reservedOp)

/-! ## Meanings -/

/-- CPU_CLOCK (R108). -/
def execCpuClock (s : State) : Host.Outcome State Fault Refusal :=
  s.transact fun s => s.mapperCpuClock.answer .done

/-- RESET (R291). -/
def execReset (isSoft : Bool) (s : State) : Host.Outcome State Fault Refusal :=
  s.transact fun s => (s.consoleReset isSoft).answer .done

/-- REGISTER (R221): no step in Failed, refused in Running (R224), a registration in Setup. -/
def execRegister (index : BitVec 8) (s : State) : Host.Outcome State Fault Refusal :=
  match s.phase with
  | .failed => .fault .noStepInFailedPhase
  | .running => .next (s.refuse .notInSetup)
  | .setup => .next (s.registerDevice (s.descriptorAt index))

/-- The reserved code 0xE (R88). -/
def execReservedE (s : State) : Host.Outcome State Fault Refusal := s.refuseReserved

/-- The reserved code 0xF (R88). -/
def execReservedF (s : State) : Host.Outcome State Fault Refusal := s.refuseReserved

end Sys2Proof.Machine
end

