-- ==== Sys2Proof/Machine/Mapper15.lean ====
section
/-! DEFINITION. The four Mapper15 rows of spec/opcode_table.json. Each is a WRITE word to MAPPER_CPU_RANGE: it runs as a
WRITE does (spec/42_cpu_bus.md R162), and where the write handler is the mapper it performs the one command its row
names (spec/41_mapper15.md R131-R134, R138). -/

namespace Sys2Proof.Machine

/-- M15_MODE0 (R132). -/
def execM15Mode0 (mid : BitVec 13) (value : Byte) (s : State) : Host.Outcome State Fault Refusal :=
  s.transact fun s =>
    (s.tracedWrite (fun t => (t.setMirroringType (mirroringOf value)).bankMode0 value) (m15Addr mid 0) value).answer
      .done

/-- M15_MODE1 (R133 with d = 0). -/
def execM15Mode1 (mid : BitVec 13) (value : Byte) (s : State) : Host.Outcome State Fault Refusal :=
  s.transact fun s =>
    (s.tracedWrite (fun t => (t.setMirroringType (mirroringOf value)).bankMode13 false value) (m15Addr mid 1)
      value).answer .done

/-- M15_MODE2 (R134). -/
def execM15Mode2 (mid : BitVec 13) (value : Byte) (s : State) : Host.Outcome State Fault Refusal :=
  s.transact fun s =>
    (s.tracedWrite (fun t => (t.setMirroringType (mirroringOf value)).bankMode2 value) (m15Addr mid 2) value).answer
      .done

/-- M15_MODE3 (R133 with d = 1). -/
def execM15Mode3 (mid : BitVec 13) (value : Byte) (s : State) : Host.Outcome State Fault Refusal :=
  s.transact fun s =>
    (s.tracedWrite (fun t => (t.setMirroringType (mirroringOf value)).bankMode13 true value) (m15Addr mid 3)
      value).answer .done

end Sys2Proof.Machine
end

