-- ==== Sys2Proof/Machine/SaveState.lean ====
section
/-! DEFINITION. SNAPSHOT and RESTORE (spec/45_snapshot.md). -/

namespace Sys2Proof.Machine

/-! ## The stream -/

/-- Mapper15's part of the stream (R241). -/
def State.mapperSnapshot (s : State) : Stream :=
  [(.m15PrgSlot, s.prgSlot.toList.flatMap le16),
   (.m15ChrSlot, le16 s.chrSlot),
   (.m15Mirroring, [mirroringByte s.mirroring])]
  ++ if s.cfg.chrWritable then [(.m15ChrRam, s.chrRam.bytes s.cfg.chrSize)] else []

/-- The whole stream: the dispatcher's three arrays, then the mapper's (R240). -/
def State.snapshotStream (s : State) : Stream :=
  [(.internalRam, s.ram.bytes ramSize),
   (.nametable0, s.nt0.bytes nametableSize),
   (.nametable1, s.nt1.bytes nametableSize)]
  ++ s.mapperSnapshot

/-- The names and lengths a stream must have, in order (R240, R241). -/
def streamShape (c : Config) : List (ArrayName × Nat) :=
  [(.internalRam, ramSize), (.nametable0, nametableSize), (.nametable1, nametableSize),
   (.m15PrgSlot, 8), (.m15ChrSlot, 2), (.m15Mirroring, 1)]
  ++ if c.chrWritable then [(.m15ChrRam, c.chrSize)] else []

/-- The array of a given name. -/
def Stream.array (st : Stream) (name : ArrayName) : List Byte := (List.lookup name st).getD []

/-- The page a stream gives for PRG slot `k`. -/
def Stream.prgSlot (st : Stream) (k : Nat) : Nat := fromLe16 (Stream.array st .m15PrgSlot) k

/-- The page a stream gives for the CHR slot. -/
def Stream.chrSlot (st : Stream) : Nat := fromLe16 (Stream.array st .m15ChrSlot) 0

/-- The mirroring byte of a stream. -/
def Stream.mirroring (st : Stream) : Byte := (Stream.array st .m15Mirroring).getD 0 0

/-- WellFormed(stream) (R243). -/
abbrev Stream.wellFormed (c : Config) (st : Stream) : Prop :=
  st.map (fun f => (f.1, f.2.length)) = streamShape c
    ∧ (∀ k ∈ [0, 1, 2, 3], Stream.prgSlot st k < c.prgPageCount)
    ∧ Stream.chrSlot st = 0
    ∧ (Stream.mirroring st = 0x00 ∨ Stream.mirroring st = 0x01)

/-- The assignments of RESTORE (R242). -/
def State.loadStream (st : Stream) (s : State) : State :=
  { s with
    ram := Memory.ofBytes (Stream.array st .internalRam)
    nt0 := Memory.ofBytes (Stream.array st .nametable0)
    nt1 := Memory.ofBytes (Stream.array st .nametable1)
    prgSlot := #v[Stream.prgSlot st 0, Stream.prgSlot st 1, Stream.prgSlot st 2, Stream.prgSlot st 3]
    chrSlot := Stream.chrSlot st
    mirroring := mirroringOfByte (Stream.mirroring st)
    chrRam := if s.cfg.chrWritable then Memory.ofBytes (Stream.array st .m15ChrRam) else s.chrRam }

/-- The stream the host hands over with this RESTORE, and the state without it. No stream handed over reads as the
stream of no arrays, which is malformed (log 5). -/
def State.takeStream (s : State) : Stream × State :=
  match s.streams with
  | [] => ([], s)
  | st :: rest => (st, { s with streams := rest })

/-! ## Meanings -/

/-- SNAPSHOT (R240): the state is only read. -/
def execSnapshot (s : State) : Host.Outcome State Fault Refusal :=
  s.transact fun s => s.answer (.stream s.snapshotStream)

/-- RESTORE (R242): a malformed stream is refused (R243). -/
def execRestore (s : State) : Host.Outcome State Fault Refusal :=
  s.transact fun s =>
    let (st, t) := s.takeStream
    if Stream.wellFormed t.cfg st then (t.loadStream st).answer .done else t.refuse .badSnapshot

end Sys2Proof.Machine
end

