-- ==== Sys2Proof/Machine/VramBus.lean ====
section
/-! DEFINITION. The VRAM-bus transactions READ_VRAM, WRITE_VRAM, DBG_READ_VRAM and TO_ABS_CHR (spec/43_vram_bus.md). A
nametable access under a mirroring mode without a map is refused with no other effect (R112, R264); Mapper15 cannot
reach such a mode. -/

namespace Sys2Proof.Machine

/-- READ_VRAM (R191): notify, read, trace, return. -/
def execReadVram (addr : Addr) (kind : AccessKind) (s : State) : Host.Outcome State Fault Refusal :=
  s.transact fun s =>
    let n := normVram addr
    let t := s.mapperNotify n
    match t.mapperReadVram n with
    | some v =>
      (t.traced { op := .read, space := .vram, addr := n, value := v, kind := some kind }).answer (.byte v)
    | none => s.refuse .unsupportedMirroring

/-- WRITE_VRAM (R192): notify, write, trace. -/
def execWriteVram (addr : Addr) (data : Byte) (s : State) : Host.Outcome State Fault Refusal :=
  s.transact fun s =>
    let n := normVram addr
    match (s.mapperNotify n).mapperWriteVram n data with
    | some t => (t.traced { op := .write, space := .vram, addr := n, value := data, kind := none }).answer .done
    | none => s.refuse .unsupportedMirroring

/-- DBG_READ_VRAM (R193): the same translation, with no notification and no trace. -/
def execDbgReadVram (addr : Addr) (s : State) : Host.Outcome State Fault Refusal :=
  s.transact fun s =>
    match s.mapperReadVram (normVram addr) with
    | some v => s.answer (.byte v)
    | none => s.refuse .unsupportedMirroring

/-- TO_ABS_CHR (R194). -/
def execToAbsChr (addr : Addr) (s : State) : Host.Outcome State Fault Refusal :=
  s.transact fun s => s.answer (.offset (s.mapperAbsChr addr))

end Sys2Proof.Machine
end

