-- ==== Sys2Proof/Machine/Dispatch.lean ====
section
/-! DEFINITION. One arm for each instruction. -/

namespace Sys2Proof.Machine

def exec (i : Instr) (s : State) : Host.Outcome State Fault Refusal :=
  match i with
  | .read addr kind => Sys2Proof.Machine.execRead addr kind s
  | .write addr data => Sys2Proof.Machine.execWrite addr data s
  | .dbgRead addr => Sys2Proof.Machine.execDbgRead addr s
  | .dbgWrite addr data => Sys2Proof.Machine.execDbgWrite addr data s
  | .readVram addr kind => Sys2Proof.Machine.execReadVram addr kind s
  | .writeVram addr data => Sys2Proof.Machine.execWriteVram addr data s
  | .dbgReadVram addr => Sys2Proof.Machine.execDbgReadVram addr s
  | .getOpenBus mask => Sys2Proof.Machine.execGetOpenBus mask s
  | .toAbsChr addr => Sys2Proof.Machine.execToAbsChr addr s
  | .cpuClock => Sys2Proof.Machine.execCpuClock s
  | .reset isSoft => Sys2Proof.Machine.execReset isSoft s
  | .register index => Sys2Proof.Machine.execRegister index s
  | .snapshot => Sys2Proof.Machine.execSnapshot s
  | .restore => Sys2Proof.Machine.execRestore s
  | .reservedE => Sys2Proof.Machine.execReservedE s
  | .reservedF => Sys2Proof.Machine.execReservedF s
  | .m15Mode0 mid value => Sys2Proof.Machine.execM15Mode0 mid value s
  | .m15Mode1 mid value => Sys2Proof.Machine.execM15Mode1 mid value s
  | .m15Mode2 mid value => Sys2Proof.Machine.execM15Mode2 mid value s
  | .m15Mode3 mid value => Sys2Proof.Machine.execM15Mode3 mid value s

end Sys2Proof.Machine
end

