-- ==== Sys2Proof/Machine/Step.lean ====
section
/-! DEFINITION. One step: the next transaction, run whole (spec/00_scope.md R7). -/

namespace Sys2Proof.Machine

/-- Take the next word of the stream and run the instruction it spells; with none waiting, idle (log 4). -/
def step (s : State) : Host.Outcome State Fault Refusal :=
  match s.fetch with
  | none => s.idle
  | some (w, t) => exec (decode w) t

/-- `s` with the given word as the next transaction (log 4): in front of whatever the host has already issued. Bits
above `nbits` are 0, and so are bits above 32, which no word has (R90). -/
def State.withFetchWord (s : State) (nbits w : Nat) : State :=
  { s with pending := BitVec.ofNat 32 (w % 2 ^ nbits) :: s.pending }

end Sys2Proof.Machine
end

