-- ==== Sys2Proof/Safety.lean ====
section
/-! DEFINITION. The terms claims are stated in: a safe state, the invariant of the machine, unmapped addresses, and the
relations that leave the logs or the latch out. -/

namespace Sys2Proof.Machine

/-- Nothing has gone wrong: no ConfigurationError (spec/60_exceptions.md R265) and no refusal, since a refused run is
never counted as a successful one (R264). -/
abbrev State.Safe (s : State) : Prop := s.phase ≠ .failed ∧ s.refused = none

/-- The four storage arrays keep their canonical form and their sizes (spec/10_state.md R23, R24, R34). -/
structure State.MemoryInv (s : State) : Prop where
  ram : s.ram.wf ∧ s.ram.within ramSize
  nt0 : s.nt0.wf ∧ s.nt0.within nametableSize
  nt1 : s.nt1.wf ∧ s.nt1.within nametableSize
  chrRam : s.chrRam.wf ∧ s.chrRam.within s.cfg.chrSize
  chrRom : s.cfg.chrWritable = false → s.chrRam = []

/-- Mapper15's registers hold what R31, R32 and R33 allow, and fit the snapshot's fields (R241). -/
structure State.MapperInv (s : State) : Prop where
  prgSlot : ∀ k : Fin 4, s.prgSlot[k] < s.cfg.prgPageCount ∧ s.prgSlot[k] < 65536
  chrSlot : s.chrSlot = 0
  mirroring : s.mirroring = .vertical ∨ s.mirroring = .horizontal

/-- The records: a fault exactly in Failed (R27, R28), and no refusal that Mapper15 cannot raise (R264). -/
structure State.RecordInv (s : State) : Prop where
  cfgFault : s.cfgFault.isSome ↔ s.phase = .failed
  badSlot : s.refused ≠ some .badSlot
  unsupportedMirroring : s.refused ≠ some .unsupportedMirroring

/-- The mapper answers in MAPPER_CPU_RANGE alone, in either direction (spec/41_mapper15.md R147, spec/60_exceptions.md
R273). -/
structure State.TableInv (s : State) : Prop where
  mapperRead : ∀ a, s.readTable.lookup a = some .mapper → isMapperAddr a = true
  mapperWrite : ∀ a, s.writeTable.lookup a = some .mapper → isMapperAddr a = true

/-- The invariant of the machine: it holds after power-on and every step keeps it. -/
structure State.Inv (s : State) : Prop where
  memory : s.MemoryInv
  mapper : s.MapperInv
  tables : s.TableInv
  record : s.RecordInv

/-- A CPU read of this address reaches nothing (spec/00_scope.md R13). -/
abbrev State.ReadUnmapped (s : State) (a : Addr) : Prop := isRamAddr a = false ∧ s.readTable.lookup a = none

/-- A CPU write to this address reaches nothing (R13). -/
abbrev State.WriteUnmapped (s : State) (a : Addr) : Prop := isRamAddr a = false ∧ s.writeTable.lookup a = none

/-- The state without its logs, which no transaction reads (R29). -/
def State.withoutLogs (s : State) : State := { s with trace := [], deviceLog := [], notifyLog := [], results := [] }

/-- The state without its logs and its latch: what a snapshot's round trip reproduces (spec/45_snapshot.md R244, C5). -/
def State.withoutLatch (s : State) : State := { s.withoutLogs with openBus := 0 }

/-- Run instructions one after another, stopping at the first that has no next state (spec/10_state.md R21). -/
def execAll : List Instr → State → Host.Outcome State Fault Refusal
  | [], s => .next s
  | i :: is, s =>
    match exec i s with
    | .next t => execAll is t
    | .fault r => .fault r
    | .refused r => .refused r

/-- The instructions that leave the latch alone (R25): all but READ and the hard reset. -/
abbrev keepsLatch : Instr → Prop
  | .read _ _ => False
  | .reset isSoft => isSoft = true
  | _ => True

/-- The instructions whose result is the latch, or may be (R25): a read of an unmapped address, and GET_OPEN_BUS. -/
abbrev State.showsLatch (s : State) : Instr → Prop
  | .read a _ => s.ReadUnmapped a
  | .dbgRead a => s.ReadUnmapped a
  | .getOpenBus _ => True
  | _ => False

end Sys2Proof.Machine

namespace Sys2Proof

/-- The bits of a transaction word that an instruction's fields and operation code take up
(spec/30_encoding.md R80, R81, column "fields used"). -/
def Instr.usedBits : Instr → TxnWord
  | .read _ _ | .readVram _ _ => 0xFFFFFF00
  | .write _ _ | .dbgWrite _ _ | .writeVram _ _ => 0xF0FFFFFF
  | .dbgRead _ | .dbgReadVram _ | .toAbsChr _ => 0xF0FFFF00
  | .getOpenBus _ | .register _ => 0xF00000FF
  | .reset _ => 0xF1000000
  | .cpuClock | .snapshot | .restore | .reservedE | .reservedF => 0xF0000000
  | .m15Mode0 _ _ | .m15Mode1 _ _ | .m15Mode2 _ _ | .m15Mode3 _ _ => 0xF0FFFFFF

end Sys2Proof
end

