-- ==== Sys2Proof/Certificates/Slice0/Obligations.lean ====
section
/-! DEFINITION. The statements for the provers, in the order of OBLIGATIONS.json. A statement whose docstring names a
decision D<n> of spec/92_eei_decisions.md rests on the spec's own choice there; one that names a log entry rests on the
model's. A conclusion `exec i s = .next { s with … }` says at once that the instruction completes, what it changes, and
that every other field, every byte of every memory among them, stays as it was. The phase each transaction leaves is D18's; the
logs `results` and `notifyLog` in which returned values and notified addresses are kept are the model's own (log 16). -/

open Sys2Proof Sys2Proof.Machine

/-! ## Words and instructions -/

/-- R80-R82, R93 and the words of spec/95_test_vectors.md L2.1 (D2): each decodes to the instruction it stands for; the last
one has junk in a field WRITE does not use. -/
def Obligations.SpecWordsDecode : Prop :=
  decode 0x00080100 = .read 0x0801 0 ∧ decode 0x03200200 = .read 0x2002 3 ∧ decode 0x1000015A = .write 0x0001 0x5A ∧
  decode 0x20080100 = .dbgRead 0x0801 ∧ decode 0x30080277 = .dbgWrite 0x0802 0x77 ∧
  decode 0x40340000 = .readVram 0x3400 0 ∧ decode 0x502005A0 = .writeVram 0x2005 0xA0 ∧
  decode 0x60340500 = .dbgReadVram 0x3405 ∧ decode 0x700000E0 = .getOpenBus 0xE0 ∧
  decode 0x80123400 = .toAbsChr 0x1234 ∧ decode 0x90000000 = .cpuClock ∧ decode 0xA1000000 = .reset true ∧
  decode 0xA0000000 = .reset false ∧ decode 0xB0000002 = .register 2 ∧ decode 0xC0000000 = .snapshot ∧
  decode 0xD0000000 = .restore ∧ decode 0xE0000000 = .reservedE ∧ decode 0xF1234567 = .reservedF ∧
  decode 0x10800081 = .m15Mode0 0 0x81 ∧ decode 0x10800104 = .m15Mode1 0 0x04 ∧
  decode 0x10800206 = .m15Mode2 0 0x06 ∧ decode 0x10FFFF00 = .m15Mode3 0x1FFF 0x00 ∧
  decode 0x1F800081 = .m15Mode0 0 0x81

/-- R80, R81, R83 (D2): every well-formed instruction is read back from its own word, with every operand. -/
def Obligations.DecodeEncodeAgree : Prop :=
  ∀ i : Instr, i.WellFormed → decode (encode i) = i

/-- R81, R83, R88 and spec/opcode_table.json: every word decodes to a well-formed instruction whose row of the table matches
the word; no word falls to a neighbour. -/
def Obligations.EveryWordMatchesItsRow : Prop :=
  ∀ w : TxnWord, (decode w).WellFormed ∧ w &&& (decode w).tableMask = (decode w).tableMatch

/-- R81 (D2): a field an operation does not list is ignored. -/
def Obligations.UnusedFieldsAreIgnored : Prop :=
  ∀ w w' : TxnWord, w' &&& (decode w).usedBits = w &&& (decode w).usedBits → decode w' = decode w

/-- R7, R21 (D1; the queue is the model's, log 4): a step runs the instruction the next word spells, on the state without
that word; with no word waiting nothing happens; a word placed by withFetchWord is the one that runs. -/
def Obligations.StepRunsDecodedInstruction : Prop :=
  (∀ (s : State) (w : TxnWord) (rest : List TxnWord), s.pending = w :: rest →
    step s = exec (decode w) { s with pending := rest }) ∧
  (∀ s : State, s.pending = [] → s.phase ≠ .failed → step s = .next s) ∧
  (∀ (s : State) (n : Nat), step (s.withFetchWord 32 n) = exec (decode (BitVec.ofNat 32 n)) s)

/-! ## CPU-bus reads -/

/-- R160, R23, R165: READ of 0x0000-0x1FFF gives the patched byte of RAM at the address modulo 0x0800, traces it and sets
the latch to it (D11 for the patch). -/
def Obligations.ReadOfRam : Prop :=
  ∀ (s : State) (addr : Addr) (kind : AccessKind), s.phase ≠ .failed → addr.toNat ≤ 0x1FFF →
    let v := s.patch addr (s.ram.read (addr.toNat % 0x0800))
    exec (.read addr kind) s = .next { s with
      phase := .running
      trace := s.trace ++ [{ op := .read, space := .cpu, addr := addr, value := v, kind := some kind }]
      openBus := v
      results := s.results ++ [.byte v] }

/-- R137, R160: READ where the read handler is the mapper gives the patched PRG byte of the slot that covers the address
(D4, D5 for the window). -/
def Obligations.ReadOfPrg : Prop :=
  ∀ (s : State) (addr : Addr) (kind : AccessKind) (k : Fin 4) (off : Nat), s.phase ≠ .failed →
    s.readTable.lookup addr = some .mapper → off < 0x2000 → addr.toNat = 0x8000 + k.val * 0x2000 + off →
    let v := s.patch addr (Memory.read s.cfg.prgImage (s.prgSlot[k] * 0x2000 + off))
    exec (.read addr kind) s = .next { s with
      phase := .running
      trace := s.trace ++ [{ op := .read, space := .cpu, addr := addr, value := v, kind := some kind }]
      openBus := v
      results := s.results ++ [.byte v] }

/-- R160, R261: READ of an unmapped address gives the patched latch; it is not an error. -/
def Obligations.ReadOfUnmapped : Prop :=
  ∀ (s : State) (addr : Addr) (kind : AccessKind), s.phase ≠ .failed → 0x1FFF < addr.toNat →
    s.readTable.lookup addr = none →
    let v := s.patch addr s.openBus
    exec (.read addr kind) s = .next { s with
      phase := .running
      trace := s.trace ++ [{ op := .read, space := .cpu, addr := addr, value := v, kind := some kind }]
      openBus := v
      results := s.results ++ [.byte v] }

/-- R160, R15, R29 (D24): READ where the read handler is an external device calls the device: the answer, whatever it is, is
logged, patched, traced, returned and left in the latch. An answer fixed in advance is the one that comes (log 3). -/
def Obligations.ReadOfDevice : Prop :=
  ∀ (s : State) (addr : Addr) (kind : AccessKind) (d : Nat), s.phase ≠ .failed → 0x1FFF < addr.toNat →
    s.readTable.lookup addr = some (.device d) →
    ∃ (raw : Byte) (answers : List Byte) (draws : Nat),
      (∀ (v : Byte) (rest : List Byte), s.answers = v :: rest → raw = v ∧ answers = rest ∧ draws = s.draws) ∧
      exec (.read addr kind) s = .next { s with
        phase := .running
        deviceLog := s.deviceLog ++ [{ op := .read, device := d, addr := addr, value := raw }]
        trace := s.trace ++
          [{ op := .read, space := .cpu, addr := addr, value := s.patch addr raw, kind := some kind }]
        openBus := s.patch addr raw
        results := s.results ++ [.byte (s.patch addr raw)]
        answers := answers
        draws := draws }

/-- R161, R170 (D12; that an external device gives both the same answer rests on the model's answers and draws, log 3, and
log 12 for a mapper read below 0x8000): DBG_READ completes wherever READ does and returns the same byte; it leaves behind what READ leaves,
the trace event and the latch apart. -/
def Obligations.DbgReadReturnsWhatReadReturns : Prop :=
  ∀ (s : State) (addr : Addr) (kind : AccessKind), s.phase ≠ .failed →
    ∃ (t : State) (v : Byte),
      exec (.read addr kind) s = .next t ∧
      exec (.dbgRead addr) s = .next { t with trace := s.trace, openBus := s.openBus } ∧
      t.results = s.results ++ [.byte v] ∧ t.openBus = v ∧
      t.trace = s.trace ++ [{ op := .read, space := .cpu, addr := addr, value := v, kind := some kind }]

/-- R164: GET_OPEN_BUS returns the latch under the mask and writes nothing. -/
def Obligations.GetOpenBusMasksTheLatch : Prop :=
  ∀ (s : State) (mask : Byte), s.phase ≠ .failed →
    exec (.getOpenBus mask) s = .next { s with
      phase := .running
      results := s.results ++ [.byte (s.openBus &&& mask)] }

/-- R166: after a READ returned V, a READ of an unmapped address returns V patched, whatever instructions that leave the
latch alone (R25) stand between the two. -/
def Obligations.OpenBusKeepsTheLastRead : Prop :=
  ∀ (s t u : State) (m a : Addr) (kind kind' : AccessKind) (between : List Instr) (v : Byte),
    exec (.read m kind) s = .next t → t.results = s.results ++ [.byte v] → (∀ i ∈ between, keepsLatch i) →
    execAll between t = .next u → u.ReadUnmapped a →
    ∃ w : State, exec (.read a kind') u = .next w ∧ w.results = u.results ++ [.byte (u.patch a v)]

/-- R165: with no patch active, the four mirrors of a RAM byte read alike. -/
def Obligations.RamMirrorsReadAlike : Prop :=
  ∀ (s : State) (a : Nat) (k : Fin 4) (kind : AccessKind), s.phase ≠ .failed → s.cfg.patches = [] → a < 0x0800 →
    ∃ t : State, exec (.read (BitVec.ofNat 16 (a + k.val * 0x0800)) kind) s = .next t ∧
      t.results = s.results ++ [.byte (s.ram.read a)] ∧ t.openBus = s.ram.read a

/-! ## CPU-bus writes -/

/-- R162, R23: WRITE to 0x0000-0x1FFF writes the one RAM byte at the address modulo 0x0800 and traces the write; every
other RAM byte reads as before. -/
def Obligations.WriteOfRam : Prop :=
  ∀ (s : State) (addr : Addr) (v : Byte), s.phase ≠ .failed → addr.toNat ≤ 0x1FFF → s.ram.wf →
    ∃ ram : Memory,
      exec (.write addr v) s = .next { s with
        phase := .running
        ram := ram
        trace := s.trace ++ [{ op := .write, space := .cpu, addr := addr, value := v, kind := none }]
        results := s.results ++ [.done] } ∧
      ram.read (addr.toNat % 0x0800) = v ∧ ∀ i, i ≠ addr.toNat % 0x0800 → ram.read i = s.ram.read i

/-- R162, R167, R262: WRITE to an address without a write handler is traced and otherwise lost. -/
def Obligations.WriteOfUnmapped : Prop :=
  ∀ (s : State) (addr : Addr) (v : Byte), s.phase ≠ .failed → 0x1FFF < addr.toNat →
    s.writeTable.lookup addr = none →
    exec (.write addr v) s = .next { s with
      phase := .running
      trace := s.trace ++ [{ op := .write, space := .cpu, addr := addr, value := v, kind := none }]
      results := s.results ++ [.done] }

/-- R162, R11, R15, R29 (D24): WRITE to an external device is traced and logged, and changes no other state. -/
def Obligations.WriteOfDevice : Prop :=
  ∀ (s : State) (addr : Addr) (v : Byte) (d : Nat), s.phase ≠ .failed → 0x1FFF < addr.toNat →
    s.writeTable.lookup addr = some (.device d) →
    exec (.write addr v) s = .next { s with
      phase := .running
      trace := s.trace ++ [{ op := .write, space := .cpu, addr := addr, value := v, kind := none }]
      deviceLog := s.deviceLog ++ [{ op := .write, device := d, addr := addr, value := v }]
      results := s.results ++ [.done] }

/-- R135, R131, R84: WRITE where the write handler is the mapper is a command: bit 6 sets the mirroring, address bits 1:0
select the mode, the four slots take the mode's pages modulo the page count, and nothing else changes. -/
def Obligations.WriteOfMapperIsACommand : Prop :=
  ∀ (s : State) (addr : Addr) (v : Byte), s.phase ≠ .failed → 0x1FFF < addr.toNat →
    s.writeTable.lookup addr = some .mapper →
    ∃ slots : Vector Nat 4,
      exec (.write addr v) s = .next { s with
        phase := .running
        trace := s.trace ++ [{ op := .write, space := .cpu, addr := addr, value := v, kind := none }]
        mirroring := if v.getLsbD 6 then .horizontal else .vertical
        prgSlot := slots
        results := s.results ++ [.done] } ∧
      let sub := v.toNat / 128
      let bank := (v &&& s.cfg.prgBankFieldMask).toNat * 2
      let n := s.cfg.prgPageCount
      (addr.toNat % 4 = 0 → ∀ k : Fin 4, slots[k] = ((bank + k.val) ^^^ sub) % n) ∧
      (addr.toNat % 4 = 1 → slots = #v[(bank ||| sub) % n, ((bank ||| sub) + 1) % n, ((bank ||| sub) + 1) % n,
        ((bank ||| sub) + 1) % n]) ∧
      (addr.toNat % 4 = 2 → ∀ k : Fin 4, slots[k] = (bank ||| sub) % n) ∧
      (addr.toNat % 4 = 3 → slots = #v[(bank ||| sub) % n, ((bank ||| sub) + 1) % n, (bank ||| sub) % n,
        ((bank ||| sub) + 1) % n])

/-- R163, R170 (D13): DBG_WRITE completes wherever WRITE does and does the same, the trace event apart. -/
def Obligations.DbgWriteIsWriteWithoutTrace : Prop :=
  ∀ (s : State) (addr : Addr) (v : Byte), s.phase ≠ .failed →
    ∃ t : State, exec (.dbgWrite addr v) s = .next t ∧ t.trace = s.trace ∧
      exec (.write addr v) s = .next { t with
        trace := s.trace ++ [{ op := .write, space := .cpu, addr := addr, value := v, kind := none }] }

/-- R60, R61: a byte written to RAM is read back, patched, through any of its mirrors. -/
def Obligations.RamWriteIsReadThroughEveryMirror : Prop :=
  ∀ (s : State) (a b : Addr) (v : Byte) (kind : AccessKind), s.phase ≠ .failed → s.ram.wf → a.toNat ≤ 0x1FFF →
    b.toNat ≤ 0x1FFF → a.toNat % 0x0800 = b.toNat % 0x0800 →
    ∃ t u : State, exec (.write a v) s = .next t ∧ exec (.read b kind) t = .next u ∧
      u.results = s.results ++ [.done, .byte (s.patch b v)]

/-! ## Mapper15 commands -/

/-- R132, R131 (that the row's word runs as a WRITE is log 10): M15_MODE0 where the mapper is the write handler: slot k takes page ((bank + k) ^ subBank), wrapped. -/
def Obligations.Mode0SetsXorIndexedSlots : Prop :=
  ∀ (s : State) (mid : BitVec 13) (v : Byte), s.phase ≠ .failed →
    s.writeTable.lookup (m15Addr mid 0) = some .mapper →
    ∃ slots : Vector Nat 4,
      exec (.m15Mode0 mid v) s = .next { s with
        phase := .running
        trace := s.trace ++ [{ op := .write, space := .cpu, addr := m15Addr mid 0, value := v, kind := none }]
        mirroring := if v.getLsbD 6 then .horizontal else .vertical
        prgSlot := slots
        results := s.results ++ [.done] } ∧
      ∀ k : Fin 4, slots[k] =
        (((v &&& s.cfg.prgBankFieldMask).toNat * 2 + k.val) ^^^ (v.toNat / 128)) % s.cfg.prgPageCount

/-- R133, R131 (log 10): M15_MODE1 (d = 0): pages b, b+1, b+1, b+1, wrapped, with b = bank | subBank. -/
def Obligations.Mode1RepeatsTheNextPage : Prop :=
  ∀ (s : State) (mid : BitVec 13) (v : Byte), s.phase ≠ .failed →
    s.writeTable.lookup (m15Addr mid 1) = some .mapper →
    let b := (v &&& s.cfg.prgBankFieldMask).toNat * 2 ||| v.toNat / 128
    exec (.m15Mode1 mid v) s = .next { s with
      phase := .running
      trace := s.trace ++ [{ op := .write, space := .cpu, addr := m15Addr mid 1, value := v, kind := none }]
      mirroring := if v.getLsbD 6 then .horizontal else .vertical
      prgSlot := #v[b % s.cfg.prgPageCount, (b + 1) % s.cfg.prgPageCount, (b + 1) % s.cfg.prgPageCount,
        (b + 1) % s.cfg.prgPageCount]
      results := s.results ++ [.done] }

/-- R134, R131 (log 10): M15_MODE2: page b in all four slots, wrapped. -/
def Obligations.Mode2MirrorsOnePage : Prop :=
  ∀ (s : State) (mid : BitVec 13) (v : Byte), s.phase ≠ .failed →
    s.writeTable.lookup (m15Addr mid 2) = some .mapper →
    let b := (v &&& s.cfg.prgBankFieldMask).toNat * 2 ||| v.toNat / 128
    exec (.m15Mode2 mid v) s = .next { s with
      phase := .running
      trace := s.trace ++ [{ op := .write, space := .cpu, addr := m15Addr mid 2, value := v, kind := none }]
      mirroring := if v.getLsbD 6 then .horizontal else .vertical
      prgSlot := #v[b % s.cfg.prgPageCount, b % s.cfg.prgPageCount, b % s.cfg.prgPageCount,
        b % s.cfg.prgPageCount]
      results := s.results ++ [.done] }

/-- R133, R131 (log 10): M15_MODE3 (d = 1): pages b, b+1, b, b+1, wrapped. -/
def Obligations.Mode3RepeatsThePair : Prop :=
  ∀ (s : State) (mid : BitVec 13) (v : Byte), s.phase ≠ .failed →
    s.writeTable.lookup (m15Addr mid 3) = some .mapper →
    let b := (v &&& s.cfg.prgBankFieldMask).toNat * 2 ||| v.toNat / 128
    exec (.m15Mode3 mid v) s = .next { s with
      phase := .running
      trace := s.trace ++ [{ op := .write, space := .cpu, addr := m15Addr mid 3, value := v, kind := none }]
      mirroring := if v.getLsbD 6 then .horizontal else .vertical
      prgSlot := #v[b % s.cfg.prgPageCount, (b + 1) % s.cfg.prgPageCount, b % s.cfg.prgPageCount,
        (b + 1) % s.cfg.prgPageCount]
      results := s.results ++ [.done] }

/-- R138, R162 (log 10): the four Mapper15 rows are WRITEs at their own address, whatever the write table holds there. -/
def Obligations.Mapper15RowsAreWrites : Prop :=
  ∀ (s : State) (mid : BitVec 13) (v : Byte),
    exec (.m15Mode0 mid v) s = exec (.write (m15Addr mid 0) v) s ∧
    exec (.m15Mode1 mid v) s = exec (.write (m15Addr mid 1) v) s ∧
    exec (.m15Mode2 mid v) s = exec (.write (m15Addr mid 2) v) s ∧
    exec (.m15Mode3 mid v) s = exec (.write (m15Addr mid 3) v) s

/-- R139: with the source's mask no command asks for a page above 257, so in an image of more than 257 pages nothing wraps
and no slot holds a page above 257. -/
def Obligations.CommandsAskForAtMostPage257 : Prop :=
  ∀ (s t : State) (addr : Addr) (v : Byte), s.cfg.prgBankFieldMask = 0x7F → 257 < s.cfg.prgPageCount →
    0x1FFF < addr.toNat → s.writeTable.lookup addr = some .mapper → exec (.write addr v) s = .next t →
    ∀ k : Fin 4, t.prgSlot[k] ≤ if addr.toNat % 4 = 0 then 257 else if addr.toNat % 4 = 2 then 255 else 256

/-- R140: with the source's mask and a page count that divides 128, bit 6 of the command moves no page; it only turns the
mirroring. -/
def Obligations.Bit6OnlyTurnsMirroringInSmallImages : Prop :=
  ∀ (s t u : State) (addr : Addr) (v : Byte), s.cfg.prgBankFieldMask = 0x7F → s.cfg.prgPageCount ∣ 128 →
    0x1FFF < addr.toNat → s.writeTable.lookup addr = some .mapper →
    exec (.write addr v) s = .next t → exec (.write addr (v ^^^ 0x40)) s = .next u →
    u.prgSlot = t.prgSlot ∧ u.mirroring ≠ t.mirroring

/-- R295, R64, R134: the page a mode 2 command selects answers the very next READ anywhere in the window. -/
def Obligations.NextReadSeesTheCommand : Prop :=
  ∀ (s : State) (mid : BitVec 13) (v : Byte) (addr : Addr) (kind : AccessKind), s.phase ≠ .failed →
    s.writeTable.lookup (m15Addr mid 2) = some .mapper → s.readTable.lookup addr = some .mapper →
    0x8000 ≤ addr.toNat →
    ∃ t u : State, exec (.m15Mode2 mid v) s = .next t ∧ exec (.read addr kind) t = .next u ∧
      u.openBus = s.patch addr (Memory.read s.cfg.prgImage
        (((v &&& s.cfg.prgBankFieldMask).toNat * 2 ||| v.toNat / 128) % s.cfg.prgPageCount * 0x2000
          + addr.toNat % 0x2000))

/-! ## VRAM bus -/

/-- R190, R195 (D9): a VRAM address above 0x3FFF is masked, and one in 0x3000-0x3FFF does exactly what the address 0x1000
below it does, notification and trace included. -/
def Obligations.VramAddressesFold : Prop :=
  ∀ (s : State) (a : Addr) (kind : AccessKind) (v : Byte),
    (0x3000 ≤ a.toNat → a.toNat ≤ 0x3FFF →
      exec (.readVram a kind) s = exec (.readVram (a - 0x1000) kind) s ∧
      exec (.writeVram a v) s = exec (.writeVram (a - 0x1000) v) s ∧
      exec (.dbgReadVram a) s = exec (.dbgReadVram (a - 0x1000)) s) ∧
    exec (.readVram a kind) s = exec (.readVram (a &&& 0x3FFF) kind) s ∧
    exec (.writeVram a v) s = exec (.writeVram (a &&& 0x3FFF) v) s ∧
    exec (.dbgReadVram a) s = exec (.dbgReadVram (a &&& 0x3FFF)) s

/-- R141, R191, R58 (D8, D10): READ_VRAM below 0x2000 gives the CHR byte of the selected page: of CHR-RAM, or of the
CHR-ROM image. -/
def Obligations.ReadVramOfChr : Prop :=
  ∀ (s : State) (addr : Addr) (kind : AccessKind), s.phase ≠ .failed → addr.toNat % 0x4000 ≤ 0x1FFF →
    let n := addr &&& 0x3FFF
    let i := s.chrSlot * 0x2000 + addr.toNat % 0x4000
    let v := if s.cfg.chrWritable then s.chrRam.read i else Memory.read s.cfg.chrImage i
    exec (.readVram addr kind) s = .next { s with
      phase := .running
      notifyLog := s.notifyLog ++ [n]
      trace := s.trace ++ [{ op := .read, space := .vram, addr := n, value := v, kind := some kind }]
      results := s.results ++ [.byte v] }

/-- R141, R191, R112 (D10, D16; the quadrant tables are the spec's general knowledge, log 23): READ_VRAM of quadrant q gives
the byte of the nametable the mirroring mode names for q, after the fold. -/
def Obligations.ReadVramOfNametable : Prop :=
  ∀ (s : State) (addr : Addr) (kind : AccessKind) (q off : Nat) (table : Memory), s.phase ≠ .failed → q < 4 →
    off < 0x0400 →
    (addr.toNat % 0x4000 = 0x2000 + q * 0x0400 + off ∨ addr.toNat % 0x4000 = 0x3000 + q * 0x0400 + off) →
    (s.mirroring = .vertical ∧ table = (if q % 2 = 0 then s.nt0 else s.nt1) ∨
      s.mirroring = .horizontal ∧ table = (if q < 2 then s.nt0 else s.nt1) ∨
      s.mirroring = .singleScreen0 ∧ table = s.nt0 ∨ s.mirroring = .singleScreen1 ∧ table = s.nt1) →
    let n : Addr := BitVec.ofNat 16 (0x2000 + q * 0x0400 + off)
    let v := table.read off
    exec (.readVram addr kind) s = .next { s with
      phase := .running
      notifyLog := s.notifyLog ++ [n]
      trace := s.trace ++ [{ op := .read, space := .vram, addr := n, value := v, kind := some kind }]
      results := s.results ++ [.byte v] }

/-- R142, R192, R262 (D8, D10): WRITE_VRAM below 0x2000 writes the one CHR-RAM byte of the selected page, or drops the byte
when CHR is ROM; it is traced either way. -/
def Obligations.WriteVramOfChr : Prop :=
  ∀ (s : State) (addr : Addr) (v : Byte), s.phase ≠ .failed → addr.toNat % 0x4000 ≤ 0x1FFF → s.chrRam.wf →
    ∃ chrRam : Memory,
      exec (.writeVram addr v) s = .next { s with
        phase := .running
        chrRam := chrRam
        notifyLog := s.notifyLog ++ [addr &&& 0x3FFF]
        trace := s.trace ++ [{ op := .write, space := .vram, addr := addr &&& 0x3FFF, value := v, kind := none }]
        results := s.results ++ [.done] } ∧
      (s.cfg.chrWritable = false → chrRam = s.chrRam) ∧
      (s.cfg.chrWritable = true →
        chrRam.read (s.chrSlot * 0x2000 + addr.toNat % 0x4000) = v ∧
        ∀ i, i ≠ s.chrSlot * 0x2000 + addr.toNat % 0x4000 → chrRam.read i = s.chrRam.read i)

/-- R142, R192, R112 (D10, D16; log 23): WRITE_VRAM of quadrant q writes the one byte of the nametable the mirroring mode
names for q; every other byte of both nametables reads as before. -/
def Obligations.WriteVramOfNametable : Prop :=
  ∀ (s : State) (addr : Addr) (v : Byte) (q off p : Nat), s.phase ≠ .failed → q < 4 → off < 0x0400 →
    s.nt0.wf → s.nt1.wf →
    (addr.toNat % 0x4000 = 0x2000 + q * 0x0400 + off ∨ addr.toNat % 0x4000 = 0x3000 + q * 0x0400 + off) →
    (s.mirroring = .vertical ∧ p = q % 2 ∨ s.mirroring = .horizontal ∧ p = q / 2 ∨
      s.mirroring = .singleScreen0 ∧ p = 0 ∨ s.mirroring = .singleScreen1 ∧ p = 1) →
    let n : Addr := BitVec.ofNat 16 (0x2000 + q * 0x0400 + off)
    ∃ nt0 nt1 : Memory,
      exec (.writeVram addr v) s = .next { s with
        phase := .running
        nt0 := nt0
        nt1 := nt1
        notifyLog := s.notifyLog ++ [n]
        trace := s.trace ++ [{ op := .write, space := .vram, addr := n, value := v, kind := none }]
        results := s.results ++ [.done] } ∧
      (∀ i, nt0.read i = if p = 0 ∧ i = off then v else s.nt0.read i) ∧
      (∀ i, nt1.read i = if p = 1 ∧ i = off then v else s.nt1.read i)

/-- R193 (D14): DBG_READ_VRAM returns the byte READ_VRAM returns and writes nothing, under every mode with a quadrant map. -/
def Obligations.DbgReadVramReturnsWhatReadVramReturns : Prop :=
  ∀ (s : State) (addr : Addr) (kind : AccessKind), s.phase ≠ .failed → s.mirroring ≠ .fourScreen →
    ∃ (t : State) (v : Byte),
      exec (.readVram addr kind) s = .next t ∧ t.results = s.results ++ [.byte v] ∧
      exec (.dbgReadVram addr) s = .next { s with phase := .running, results := s.results ++ [.byte v] }

/-- R112, R264: a nametable access under four-screen mirroring is refused with UnsupportedMirroring and has no other effect
(the phase step apart, log 8). -/
def Obligations.FourScreenAccessIsRefused : Prop :=
  ∀ (s : State) (addr : Addr) (kind : AccessKind) (v : Byte), s.phase ≠ .failed → s.mirroring = .fourScreen →
    0x1FFF < addr.toNat % 0x4000 →
    ∀ i ∈ [Instr.readVram addr kind, Instr.writeVram addr v, Instr.dbgReadVram addr],
      exec i s = .next { s with
        phase := .running
        refused := if s.refused = none then some .unsupportedMirroring else s.refused
        results := s.results ++ [.refused .unsupportedMirroring] }

/-- R146, R194 (D15): TO_ABS_CHR returns the CHR offset of an address masked to 14 bits, NONE outside CHR, and writes
nothing. -/
def Obligations.ToAbsChrGivesTheOffset : Prop :=
  ∀ (s : State) (addr : Addr), s.phase ≠ .failed →
    exec (.toAbsChr addr) s = .next { s with
      phase := .running
      results := s.results ++ [.offset
        (if addr.toNat % 0x4000 ≤ 0x1FFF then some (s.chrSlot * 0x2000 + addr.toNat % 0x4000) else none)] }

/-- R196, R25: no VRAM transaction touches the latch or calls a device, and no CPU transaction notifies the mapper of a VRAM
address or touches a nametable or CHR-RAM. -/
def Obligations.BusesAreSeparate : Prop :=
  ∀ (s t : State) (i : Instr), exec i s = .next t →
    ((∃ a k, i = .readVram a k) ∨ (∃ a v, i = .writeVram a v) ∨ (∃ a, i = .dbgReadVram a) ∨ (∃ a, i = .toAbsChr a) →
      t.openBus = s.openBus ∧ t.ram = s.ram ∧ t.prgSlot = s.prgSlot ∧ t.mirroring = s.mirroring ∧
      t.deviceLog = s.deviceLog ∧ t.answers = s.answers ∧ t.draws = s.draws) ∧
    ((∃ a k, i = .read a k) ∨ (∃ a v, i = .write a v) ∨ (∃ a, i = .dbgRead a) ∨ (∃ a v, i = .dbgWrite a v) ∨
        (∃ m, i = .getOpenBus m) ∨ (∃ m v, i = .m15Mode0 m v ∨ i = .m15Mode1 m v ∨ i = .m15Mode2 m v ∨ i = .m15Mode3 m v) →
      t.notifyLog = s.notifyLog ∧ t.nt0 = s.nt0 ∧ t.nt1 = s.nt1 ∧ t.chrRam = s.chrRam ∧ t.chrSlot = s.chrSlot)

/-! ## Lifecycle -/

/-- R108, R145 (D17): CPU_CLOCK changes nothing but the phase. -/
def Obligations.CpuClockChangesNothing : Prop :=
  ∀ s : State, s.phase ≠ .failed →
    exec .cpuClock s = .next { s with phase := .running, results := s.results ++ [.done] }

/-- R291, R136, R293 (D7): a soft reset returns the mapper's registers to the power-on banking and keeps every memory, the
latch, the tables, the records and the logs. -/
def Obligations.SoftResetKeepsMemory : Prop :=
  ∀ s : State, s.phase ≠ .failed →
    exec (.reset true) s = .next { s with
      phase := .running
      prgSlot := #v[0 % s.cfg.prgPageCount, 1 % s.cfg.prgPageCount, 2 % s.cfg.prgPageCount, 3 % s.cfg.prgPageCount]
      chrSlot := 0
      mirroring := .vertical
      results := s.results ++ [.done] }

/-- R291, R136, R292, R293 (D7, D20, D21, D34): a hard reset clears RAM under the all-zero policy, leaves some contents in the
nametables, the latch and CHR-RAM (in CHR-ROM's case nothing), returns the mapper to the power-on banking, and keeps the
tables, the records and the logs. -/
def Obligations.HardResetRedrawsMemory : Prop :=
  ∀ s : State, s.phase ≠ .failed →
    ∃ (ram nt0 nt1 chrRam : Memory) (openBus : Byte) (draws : Nat),
      exec (.reset false) s = .next { s with
        phase := .running
        ram := ram
        nt0 := nt0
        nt1 := nt1
        chrRam := chrRam
        openBus := openBus
        draws := draws
        prgSlot := #v[0 % s.cfg.prgPageCount, 1 % s.cfg.prgPageCount, 2 % s.cfg.prgPageCount,
          3 % s.cfg.prgPageCount]
        chrSlot := 0
        mirroring := .vertical
        results := s.results ++ [.done] } ∧
      (s.cfg.ramInit = .allZero → ∀ i, ram.read i = 0) ∧ (s.cfg.chrWritable = false → chrRam = s.chrRam)

/-- R221, R222 (log 6 for an index beyond the host's list): REGISTER in Setup without a conflict, or with override, installs
the descriptor's handler at exactly its addresses in each direction, and changes nothing else; the later handler wins. The
mapper's descriptor is R147's (D4, D31; log 23): 0x8000-0xFFFF in both directions, without override. -/
def Obligations.RegisterInstallsTheDevice : Prop :=
  ∀ (s : State) (index : BitVec 8), s.phase = .setup →
    let d := s.descriptorAt index
    (d.allowOverride = true ∨
      (∀ a, setCovers d.readAddresses a = true → s.readTable.lookup a = none) ∧
      (∀ a, setCovers d.writeAddresses a = true → s.writeTable.lookup a = none)) →
    ∃ readTable writeTable : HandlerTable,
      exec (.register index) s = .next { s with
        readTable := readTable
        writeTable := writeTable
        results := s.results ++ [.ok] } ∧
      (∀ a, readTable.lookup a = if setCovers d.readAddresses a then some d.id else s.readTable.lookup a) ∧
      (∀ a, writeTable.lookup a = if setCovers d.writeAddresses a then some d.id else s.writeTable.lookup a) ∧
      (d.id = .mapper → d.allowOverride = false ∧
        ∀ a, (setCovers d.readAddresses a = true ↔ 0x8000 ≤ a.toNat) ∧
          (setCovers d.writeAddresses a = true ↔ 0x8000 ≤ a.toNat))

/-- R221, R265, R266 (D19; log 6 for an index beyond the host's list): a REGISTER in Setup without override whose first read conflict, in ascending order, is at `a`:
ConfigurationError (Read, a), phase Failed, the read addresses below `a` installed, nothing else changed. -/
def Obligations.ReadConflictRaisesConfigurationError : Prop :=
  ∀ (s : State) (index : BitVec 8) (a : Addr), s.phase = .setup →
    let d := s.descriptorAt index
    d.allowOverride = false → setCovers d.readAddresses a = true → (s.readTable.lookup a).isSome = true →
    (∀ b, setCovers d.readAddresses b = true → (s.readTable.lookup b).isSome = true → a ≤ b) →
    ∃ readTable : HandlerTable,
      exec (.register index) s = .next { s with
        readTable := readTable
        phase := .failed
        cfgFault := some { direction := .read, addr := a }
        results := s.results ++ [.configurationError { direction := .read, addr := a }] } ∧
      ∀ b, readTable.lookup b =
        if setCovers d.readAddresses b = true ∧ b < a then some d.id else s.readTable.lookup b

/-- R221, R265, R266 (D19; log 6 for an index beyond the host's list): without a read conflict, a first write conflict at `a` raises ConfigurationError (Write, a); all
read addresses and the write addresses below `a` are installed. -/
def Obligations.WriteConflictRaisesConfigurationError : Prop :=
  ∀ (s : State) (index : BitVec 8) (a : Addr), s.phase = .setup →
    let d := s.descriptorAt index
    d.allowOverride = false → (∀ b, setCovers d.readAddresses b = true → s.readTable.lookup b = none) →
    setCovers d.writeAddresses a = true → (s.writeTable.lookup a).isSome = true →
    (∀ b, setCovers d.writeAddresses b = true → (s.writeTable.lookup b).isSome = true → a ≤ b) →
    ∃ readTable writeTable : HandlerTable,
      exec (.register index) s = .next { s with
        readTable := readTable
        writeTable := writeTable
        phase := .failed
        cfgFault := some { direction := .write, addr := a }
        results := s.results ++ [.configurationError { direction := .write, addr := a }] } ∧
      (∀ b, readTable.lookup b = if setCovers d.readAddresses b then some d.id else s.readTable.lookup b) ∧
      ∀ b, writeTable.lookup b =
        if setCovers d.writeAddresses b = true ∧ b < a then some d.id else s.writeTable.lookup b

/-- R224, R264 (D18): a REGISTER in Running is refused with NotInSetup and has no other effect. -/
def Obligations.LateRegisterIsRefused : Prop :=
  ∀ (s : State) (index : BitVec 8), s.phase = .running →
    exec (.register index) s = .next { s with
      refused := if s.refused = none then some .notInSetup else s.refused
      results := s.results ++ [.refused .notInSetup] }

/-- R88, R264 (D32): the reserved codes are refused with ReservedOp and have no other effect; that the phase stays is the
model's reading (log 8). -/
def Obligations.ReservedCodesAreRefused : Prop :=
  ∀ s : State, s.phase ≠ .failed → ∀ i ∈ [Instr.reservedE, Instr.reservedF],
    exec i s = .next { s with
      refused := if s.refused = none then some .reservedOp else s.refused
      results := s.results ++ [.refused .reservedOp] }

/-- R226 (D19): in Failed nothing has a step, neither a transaction nor the machine. That a reserved code has none there is the
model's reading (log 9), and that the machine with no word waiting has none is the model's choice (log 4). -/
def Obligations.FailedHasNoStep : Prop :=
  ∀ s : State, s.phase = .failed →
    step s = .fault .noStepInFailedPhase ∧ ∀ i : Instr, exec i s = .fault .noStepInFailedPhase

/-- R27, R225, R260 (D18, D19; log 8 for the reserved codes): every transaction but REGISTER ends the Setup phase, nothing leads back to it, and only a
REGISTER in Setup leads to Failed, recording the conflict it returns. -/
def Obligations.PhasesChangeAsTheLifecycleSays : Prop :=
  ∀ (s t : State) (i : Instr), exec i s = .next t →
    ((∀ index, i ≠ .register index) → i ≠ .reservedE → i ≠ .reservedF → t.phase = .running) ∧
    (t.phase = .setup → s.phase = .setup) ∧
    (t.phase = .failed → s.phase = .setup ∧ (∃ index, i = .register index) ∧
      ∃ f : ConfigFault, t.cfgFault = some f ∧ t.results = s.results ++ [.configurationError f])

/-- R227, R293, R246: in Running no step changes a handler table or leaves Running. -/
def Obligations.RunningKeepsTheTables : Prop :=
  ∀ s t : State, s.phase = .running → step s = .next t →
    t.phase = .running ∧ t.readTable = s.readTable ∧ t.writeTable = s.writeTable

/-- R28 (D19): the refusal record keeps the first reason, and the fault record is written only when it is absent. -/
def Obligations.RecordsAreSetOnce : Prop :=
  ∀ s t : State, s.Inv → step s = .next t →
    (∀ r, s.refused = some r → t.refused = some r) ∧ (t.cfgFault ≠ s.cfgFault → s.cfgFault = none)

/-- R37, R35, R29, R293, R246: no step changes a parameter of the run (the PRG image and a CHR-ROM among them), and none
takes an entry out of a log. -/
def Obligations.StepsKeepParametersAndGrowLogs : Prop :=
  ∀ s t : State, step s = .next t →
    t.cfg = s.cfg ∧ s.trace <+: t.trace ∧ s.deviceLog <+: t.deviceLog ∧ s.notifyLog <+: t.notifyLog ∧
    s.results <+: t.results

/-- R29 (the logs `notifyLog` and `results` are log 16, the equal answers and draws log 2 and log 3): no transaction reads a
log: two states that differ in their logs alone take the same step, append the same entries
and again differ in their logs alone. -/
def Obligations.LogsAreNeverRead : Prop :=
  ∀ s u : State, s.withoutLogs = u.withoutLogs →
    (∃ (t w : State) (trace : List TraceEvent) (calls : List DeviceCall) (notes : List Addr) (results : List TxnResult),
      step s = .next t ∧ step u = .next w ∧ t.withoutLogs = w.withoutLogs ∧
      t.trace = s.trace ++ trace ∧ w.trace = u.trace ++ trace ∧
      t.deviceLog = s.deviceLog ++ calls ∧ w.deviceLog = u.deviceLog ++ calls ∧
      t.notifyLog = s.notifyLog ++ notes ∧ w.notifyLog = u.notifyLog ++ notes ∧
      t.results = s.results ++ results ∧ w.results = u.results ++ results) ∨
    (step s = .fault .noStepInFailedPhase ∧ step u = .fault .noStepInFailedPhase)

/-! ## Snapshot and restore -/

/-- R240, R241 (D22, D26): SNAPSHOT returns the arrays in order, and writes nothing. With the invariant every slot fits its
16-bit field. -/
def Obligations.SnapshotReturnsTheStream : Prop :=
  ∀ s : State, s.phase ≠ .failed → s.Inv →
    exec .snapshot s = .next { s with
      phase := .running
      results := s.results ++ [.stream (
        [(.internalRam, (List.range 2048).map fun i => s.ram.read i),
         (.nametable0, (List.range 1024).map fun i => s.nt0.read i),
         (.nametable1, (List.range 1024).map fun i => s.nt1.read i),
         (.m15PrgSlot, s.prgSlot.toList.flatMap fun p => [BitVec.ofNat 8 (p % 256), BitVec.ofNat 8 (p / 256)]),
         (.m15ChrSlot, [0x00, 0x00]),
         (.m15Mirroring, [if s.mirroring = .horizontal then 0x01 else 0x00])] ++
        if s.cfg.chrWritable then
          [(.m15ChrRam, (List.range (s.cfg.chrPageCount * 8192)).map fun i => s.chrRam.read i)] else [])] }

/-- R242, R243 (D23; the queue of streams is the model's, log 5): RESTORE of a well-formed stream loads it: each memory holds the stream's bytes, the registers its
numbers; the latch, the tables, the phase's own step apart the records and the logs are not touched. -/
def Obligations.RestoreLoadsTheStream : Prop :=
  ∀ (s : State) (st : Stream) (rest : List Stream), s.phase ≠ .failed → s.streams = st :: rest →
    Stream.wellFormed s.cfg st →
    ∃ (ram nt0 nt1 chrRam : Memory) (slots : Vector Nat 4),
      exec .restore s = .next { s with
        phase := .running
        streams := rest
        ram := ram
        nt0 := nt0
        nt1 := nt1
        prgSlot := slots
        chrSlot := 0
        mirroring := if (Stream.array st .m15Mirroring).head? = some 0x01 then .horizontal else .vertical
        chrRam := chrRam
        results := s.results ++ [.done] } ∧
      (∀ i < 2048, some (ram.read i) = (Stream.array st .internalRam)[i]?) ∧
      (∀ i < 1024, some (nt0.read i) = (Stream.array st .nametable0)[i]?) ∧
      (∀ i < 1024, some (nt1.read i) = (Stream.array st .nametable1)[i]?) ∧
      (∀ k : Fin 4, ∃ low high : Byte, (Stream.array st .m15PrgSlot)[2 * k.val]? = some low ∧
        (Stream.array st .m15PrgSlot)[2 * k.val + 1]? = some high ∧ slots[k] = low.toNat + 256 * high.toNat) ∧
      (s.cfg.chrWritable = false → chrRam = s.chrRam) ∧
      (s.cfg.chrWritable = true →
        ∀ i < s.cfg.chrPageCount * 8192, some (chrRam.read i) = (Stream.array st .m15ChrRam)[i]?)

/-- R243, R242, R264 (D23; log 5 for the missing stream, log 8 for the phase): RESTORE of a malformed stream is refused with
BadSnapshot and changes nothing else. -/
def Obligations.MalformedStreamIsRefused : Prop :=
  ∀ s : State, s.phase ≠ .failed →
    (∀ (st : Stream) (rest : List Stream), s.streams = st :: rest → ¬ Stream.wellFormed s.cfg st →
      exec .restore s = .next { s with
        phase := .running
        streams := rest
        refused := if s.refused = none then some .badSnapshot else s.refused
        results := s.results ++ [.refused .badSnapshot] }) ∧
    (s.streams = [] →
      exec .restore s = .next { s with
        phase := .running
        refused := if s.refused = none then some .badSnapshot else s.refused
        results := s.results ++ [.refused .badSnapshot] })

/-- R113, R242, R244 (D23; log 5): the stream of one instance, restored into another built alike, gives the second the first one's
memories and mapper registers, exactly. -/
def Obligations.RestoreReproducesTheSnapshot : Prop :=
  ∀ (s u : State) (rest : List Stream), s.Inv → u.Inv → u.cfg = s.cfg → u.phase ≠ .failed →
    u.streams = s.snapshotStream :: rest →
    exec .restore u = .next { u with
      phase := .running
      streams := rest
      ram := s.ram
      nt0 := s.nt0
      nt1 := s.nt1
      prgSlot := s.prgSlot
      chrSlot := s.chrSlot
      mirroring := s.mirroring
      chrRam := s.chrRam
      results := u.results ++ [.done] }

/-- R244, R246, C5 ("the same device answers" is the same `answers` and `draws`, log 3; the same `draws` also gives both the
same draws at a hard reset, log 2): two instances that agree up to the
logs and the latch keep agreeing at every step and return the same
result, unless the instruction shows the latch. -/
def Obligations.RoundTripHoldsUpToTheLatch : Prop :=
  ∀ (s u : State) (i : Instr), s.phase ≠ .failed → s.withoutLatch = u.withoutLatch →
    ∃ (t w : State) (r r' : TxnResult), exec i s = .next t ∧ exec i u = .next w ∧ t.withoutLatch = w.withoutLatch ∧
      t.results = s.results ++ [r] ∧ w.results = u.results ++ [r'] ∧ (¬ s.showsLatch i → r = r')

/-- R244 (log 3 for a device's answer, log 2 and log 12 for a mapper read below 0x8000): a READ that does not take the open-bus path ends the difference: both latches hold the same value after it. -/
def Obligations.MappedReadSettlesTheLatch : Prop :=
  ∀ (s u : State) (addr : Addr) (kind : AccessKind), s.phase ≠ .failed → s.withoutLatch = u.withoutLatch →
    ¬ s.ReadUnmapped addr →
    ∃ t w : State, exec (.read addr kind) s = .next t ∧ exec (.read addr kind) u = .next w ∧
      t.openBus = w.openBus ∧ t.withoutLogs = w.withoutLogs

/-! ## Power-on and the invariant -/

/-- R39, R290, for every configuration: after construction and Initialize the tables and records are absent, the phase is Setup,
the mapper at its power-on banking, the logs empty, RAM zero under the all-zero policy. The machine's reset is this state
with the host's parameters and the source's mask (the model's choice, log 1 and log 18). -/
def Obligations.PowerOnState : Prop :=
  State.reset = State.powerOn Config.machine ∧ State.reset.cfg.prgBankFieldMask = 0x7F ∧
  ∀ c : Config,
    let s := State.powerOn c
    s.cfg = c ∧ (∀ a, s.readTable.lookup a = none) ∧ (∀ a, s.writeTable.lookup a = none) ∧ s.phase = .setup ∧
    s.cfgFault = none ∧ s.refused = none ∧ s.chrSlot = 0 ∧ s.mirroring = .vertical ∧
    (∀ k : Fin 4, s.prgSlot[k] = k.val % c.prgPageCount) ∧ s.trace = [] ∧ s.deviceLog = [] ∧
    (c.ramInit = .allZero → ∀ i, s.ram.read i = 0) ∧ s.Safe

/-- R130 (D6): whatever the mapper's registers held at construction, Initialize is the call SelectChrPage(0, 0) and the register
write of 0 at 0x8000; it leaves CHR page 0, the slots 0 to 3 (wrapped) and Vertical, and nothing else, which is the
power-on state. -/
def Obligations.InitializeGivesThePowerOnBanking : Prop :=
  ∀ (c : Config) (slots : Vector Nat 4) (chrSlot : Nat) (mode : MirroringMode),
    let s := { State.powerOn c with prgSlot := slots, chrSlot := chrSlot, mirroring := mode }
    s.mapperPowerOn = (s.selectChrPage 0 0).writeRegister 0x8000 0x00 ∧
    s.mapperPowerOn = { s with
      chrSlot := 0
      prgSlot := #v[0 % c.prgPageCount, 1 % c.prgPageCount, 2 % c.prgPageCount, 3 % c.prgPageCount]
      mirroring := .vertical } ∧
    s.mapperPowerOn = State.powerOn c

/-- The invariant (Safety.lean: R23, R24, R27, R28, R31-R34, R147, R264) holds after power-on. -/
def Obligations.ResetMeetsTheInvariant : Prop :=
  State.reset.Inv

/-- The invariant is kept by every step from every state that meets it: memories canonical and in size, slots inside the
image (R31), CHR page 0 (R32), mirroring Horizontal or Vertical (R33), the mapper's handlers in 0x8000-0xFFFF alone (R147, R273;
D4), a fault exactly in Failed (R28), and never a BadSlot or UnsupportedMirroring refusal (R264). -/
def Obligations.EveryStepKeepsTheInvariant : Prop :=
  ∀ s t : State, s.Inv → step s = .next t → t.Inv
end

