-- ==== Sys2Proof/Laws/Decode.lean ====
section
/-! SUPPORT. The fields of a built word, and the parts of a built Mapper15 address, read back (spec/30_encoding.md R80,
R83). -/

namespace Sys2Proof

@[simp] theorem opField_txnWord (op kind : BitVec 4) (addr : Addr) (data : Byte) :
    opField (txnWord op kind addr data) = op := by
  ext i hi
  simp only [opField, txnWord, BitVec.getElem_extractLsb', BitVec.getLsbD_append]
  interval_cases i <;> simp [BitVec.getElem_eq_testBit_toNat, BitVec.getLsbD]

@[simp] theorem kindField_txnWord (op kind : BitVec 4) (addr : Addr) (data : Byte) :
    kindField (txnWord op kind addr data) = kind := by
  ext i hi
  simp only [kindField, txnWord, BitVec.getElem_extractLsb', BitVec.getLsbD_append]
  interval_cases i <;> simp [BitVec.getElem_eq_testBit_toNat, BitVec.getLsbD]

@[simp] theorem addrField_txnWord (op kind : BitVec 4) (addr : Addr) (data : Byte) :
    addrField (txnWord op kind addr data) = addr := by
  ext i hi
  simp only [addrField, txnWord, BitVec.getElem_extractLsb', BitVec.getLsbD_append]
  interval_cases i <;> simp [BitVec.getElem_eq_testBit_toNat, BitVec.getLsbD]

@[simp] theorem dataField_txnWord (op kind : BitVec 4) (addr : Addr) (data : Byte) :
    dataField (txnWord op kind addr data) = data := by
  ext i hi
  simp only [dataField, txnWord, BitVec.getElem_extractLsb', BitVec.getLsbD_append]
  interval_cases i <;> simp [BitVec.getElem_eq_testBit_toNat, BitVec.getLsbD]

@[simp] theorem m15Mid_m15Addr (mid : BitVec 13) (sel : BitVec 2) : m15Mid (m15Addr mid sel) = mid := by
  ext i hi
  simp only [m15Mid, m15Addr, BitVec.getElem_extractLsb', BitVec.getLsbD_append]
  interval_cases i <;> simp [BitVec.getElem_eq_testBit_toNat, BitVec.getLsbD]

@[simp] theorem m15Sel_m15Addr (mid : BitVec 13) (sel : BitVec 2) : m15Sel (m15Addr mid sel) = sel := by
  ext i hi
  simp only [m15Sel, m15Addr, BitVec.getElem_extractLsb', BitVec.getLsbD_append]
  interval_cases i <;> simp [BitVec.getElem_eq_testBit_toNat, BitVec.getLsbD]

/-- A Mapper15 address has bit 15 set. -/
theorem m15Addr_bit15 (mid : BitVec 13) (sel : BitVec 2) : (m15Addr mid sel).getLsbD 15 = true := by
  simp only [m15Addr, BitVec.getLsbD_append]
  decide +revert

/-- Every word is built of its four fields (R80). -/
theorem txnWord_fields (w : TxnWord) : txnWord (opField w) (kindField w) (addrField w) (dataField w) = w := by
  apply BitVec.eq_of_getLsbD_eq
  intro i hi
  simp only [txnWord, opField, kindField, addrField, dataField, BitVec.getLsbD_append, BitVec.getLsbD_extractLsb']
  interval_cases i <;> simp

/-- Every address with bit 15 set is built of its Mapper15 parts (R83). -/
theorem m15Addr_fields {a : Addr} (h : a.getLsbD 15 = true) : m15Addr (m15Mid a) (m15Sel a) = a := by
  apply BitVec.eq_of_getLsbD_eq
  intro i hi
  simp only [m15Addr, m15Mid, m15Sel, BitVec.getLsbD_append, BitVec.getLsbD_extractLsb']
  interval_cases i <;> simp_all

/-- A Mapper15 address as a number. -/
theorem m15Addr_toNat (mid : BitVec 13) (sel : BitVec 2) :
    (m15Addr mid sel).toNat = 0x8000 + mid.toNat * 4 + sel.toNat := by
  have hm := mid.isLt
  have hs := sel.isLt
  simp only [m15Addr, BitVec.toNat_append, BitVec.toNat_ofNat, Nat.shiftLeft_eq]
  rw [Nat.or_comm, ← Nat.shiftLeft_eq, ← Nat.shiftLeft_eq, Nat.or_comm]
  rw [← Nat.shiftLeft_add_eq_or_of_lt hs, ← Nat.shiftLeft_add_eq_or_of_lt hm]
  simp only [Nat.shiftLeft_eq]
  omega

end Sys2Proof
end

