-- ==== Sys2Proof/Laws/Registry.lean ====
section
/-! SUPPORT. The handler tables, address by address: what installing a set does to a lookup, and what the first conflict
is (spec/44_registry.md R221, R222, spec/60_exceptions.md R266). -/

namespace Sys2Proof.Machine

theorem rangeCovers_iff (r : AddrRange) (a : Addr) : rangeCovers r a = true ↔ r.lo ≤ a ∧ a ≤ r.hi := by
  simp [rangeCovers]

/-- An address of an installed set answers with the new handler, every other address as before. -/
theorem HandlerTable.lookup_install (t : HandlerTable) (set : List AddrRange) (id : HandlerId) (a : Addr) :
    (t.install set id).lookup a = if setCovers set a then some id else t.lookup a := by
  induction set with
  | nil => rfl
  | cons r set ih =>
    have hcons : HandlerTable.lookup (t.install (r :: set) id) a =
        if rangeCovers r a then some id else (t.install set id).lookup a := rfl
    rw [hcons, ih]
    by_cases h : rangeCovers r a <;> simp [setCovers, h]

/-- An address has an entry exactly when some installed range covers it. -/
theorem HandlerTable.lookup_isSome (t : HandlerTable) (a : Addr) :
    (t.lookup a).isSome = true ↔ ∃ e ∈ t, rangeCovers e.range a = true := by
  induction t with
  | nil => simp [HandlerTable.lookup]
  | cons e t ih =>
    by_cases h : rangeCovers e.range a <;> simp [HandlerTable.lookup, h, ih]

theorem setCovers_iff (set : List AddrRange) (a : Addr) :
    setCovers set a = true ↔ ∃ r ∈ set, rangeCovers r a = true := by
  simp [setCovers]

/-- Two ranges share an address exactly when they have a first shared one, and it is the lowest. -/
theorem firstShared_some {r q : AddrRange} {a : Addr} (h : firstShared r q = some a) :
    rangeCovers r a = true ∧ rangeCovers q a = true ∧
      ∀ b, rangeCovers r b = true → rangeCovers q b = true → a ≤ b := by
  simp only [firstShared, Option.ite_none_right_eq_some, Option.some.injEq, Bool.and_eq_true] at h
  obtain ⟨⟨hr, hq⟩, rfl⟩ := h
  refine ⟨hr, hq, fun b hrb hqb => ?_⟩
  rw [rangeCovers_iff] at hrb hqb
  split
  · exact hqb.1
  · exact hrb.1

theorem firstShared_isSome {r q : AddrRange} {b : Addr} (hr : rangeCovers r b = true)
    (hq : rangeCovers q b = true) : ∃ a, firstShared r q = some a := by
  rw [rangeCovers_iff] at hr hq
  simp only [firstShared]
  refine ⟨_, if_pos ?_⟩
  rw [Bool.and_eq_true, rangeCovers_iff, rangeCovers_iff]
  split <;> bv_omega

theorem leastAddr_none {l : List Addr} (h : leastAddr l = none) : l = [] := by
  cases l with
  | nil => rfl
  | cons a as =>
    simp only [leastAddr] at h
    split at h
    · exact absurd h (by simp)
    · split at h <;> exact absurd h (by simp)

theorem leastAddr_some {l : List Addr} {a : Addr} (h : leastAddr l = some a) : a ∈ l ∧ ∀ b ∈ l, a ≤ b := by
  induction l generalizing a with
  | nil => exact absurd h (by simp [leastAddr])
  | cons c cs ih =>
    simp only [leastAddr] at h
    split at h
    · next hnone =>
      obtain rfl := Option.some.inj h
      simp [leastAddr_none hnone]
    · next b hb =>
      obtain ⟨hmem, hle⟩ := ih hb
      split at h
      · next hcb =>
        obtain rfl := Option.some.inj h
        exact ⟨by simp, List.forall_mem_cons.2 ⟨BitVec.le_refl _, fun d hd => BitVec.le_trans hcb (hle d hd)⟩⟩
      · next hcb =>
        obtain rfl := Option.some.inj h
        exact ⟨List.mem_cons_of_mem _ hmem, List.forall_mem_cons.2 ⟨by bv_omega, hle⟩⟩

theorem HandlerTable.mem_shared_iff (t : HandlerTable) (set : List AddrRange) (a : Addr) :
    a ∈ (set.flatMap fun r => t.filterMap fun e => firstShared r e.range) ↔
      ∃ r ∈ set, ∃ e ∈ t, firstShared r e.range = some a := by
  simp [List.mem_flatMap, List.mem_filterMap]

/-- The first conflict: an address of the set with an entry, and the lowest such address. -/
theorem HandlerTable.firstPresent_some {t : HandlerTable} {set : List AddrRange} {a : Addr}
    (h : t.firstPresent set = some a) :
    setCovers set a = true ∧ (t.lookup a).isSome = true ∧
      ∀ b, setCovers set b = true → (t.lookup b).isSome = true → a ≤ b := by
  obtain ⟨hmem, hle⟩ := leastAddr_some h
  obtain ⟨r, hr, e, he, hs⟩ := (HandlerTable.mem_shared_iff t set a).1 hmem
  obtain ⟨hra, hea, -⟩ := firstShared_some hs
  refine ⟨(setCovers_iff set a).2 ⟨r, hr, hra⟩, (HandlerTable.lookup_isSome t a).2 ⟨e, he, hea⟩, fun b hb hp => ?_⟩
  obtain ⟨r', hr', hrb⟩ := (setCovers_iff set b).1 hb
  obtain ⟨e', he', heb⟩ := (HandlerTable.lookup_isSome t b).1 hp
  obtain ⟨c, hc⟩ := firstShared_isSome hrb heb
  exact BitVec.le_trans (hle c ((HandlerTable.mem_shared_iff t set c).2 ⟨r', hr', e', he', hc⟩))
    ((firstShared_some hc).2.2 b hrb heb)

/-- No conflict: no address of the set has an entry. -/
theorem HandlerTable.firstPresent_none {t : HandlerTable} {set : List AddrRange}
    (h : t.firstPresent set = none) {b : Addr} (hb : setCovers set b = true) : t.lookup b = none := by
  by_contra hp
  obtain ⟨r, hr, hrb⟩ := (setCovers_iff set b).1 hb
  obtain ⟨e, he, heb⟩ := (HandlerTable.lookup_isSome t b).1 (Option.isSome_iff_ne_none.2 hp)
  obtain ⟨c, hc⟩ := firstShared_isSome hrb heb
  have := (HandlerTable.mem_shared_iff t set c).2 ⟨r, hr, e, he, hc⟩
  rw [leastAddr_none h] at this
  exact absurd this (by simp)

/-- The addresses of a set below a limit. -/
theorem setCovers_setBelow (limit : Addr) (set : List AddrRange) (b : Addr) :
    setCovers (setBelow limit set) b = true ↔ setCovers set b = true ∧ b < limit := by
  have hrange : ∀ r : AddrRange,
      (∃ q, rangeBelow limit r = some q ∧ rangeCovers q b = true) ↔ rangeCovers r b = true ∧ b < limit := by
    intro r
    unfold rangeBelow
    split
    · simp only [Option.some.injEq, exists_eq_left', rangeCovers_iff]
      split <;> constructor <;> rintro ⟨h1, h2⟩ <;> refine ⟨?_, ?_⟩ <;> bv_omega
    · simp only [rangeCovers_iff]
      constructor
      · rintro ⟨q, hq, -⟩; exact absurd hq (by simp)
      · rintro ⟨⟨h1, -⟩, h2⟩; bv_omega
  rw [setCovers_iff, setCovers_iff]
  constructor
  · rintro ⟨q, hq, hqb⟩
    obtain ⟨r, hr, hrq⟩ := List.mem_filterMap.1 hq
    obtain ⟨h1, h2⟩ := (hrange r).1 ⟨q, hrq, hqb⟩
    exact ⟨⟨r, hr, h1⟩, h2⟩
  · rintro ⟨⟨r, hr, hrb⟩, hlt⟩
    obtain ⟨q, hq, hqb⟩ := (hrange r).2 ⟨hrb, hlt⟩
    exact ⟨q, List.mem_filterMap.2 ⟨r, hr, hq⟩, hqb⟩

end Sys2Proof.Machine
end

