-- ==== Sys2Proof/Laws/Lifecycle.lean ====
section
/-! SUPPORT. The descriptors REGISTER takes (spec/41_mapper15.md R147) and its conflict search (spec/44_registry.md R221,
spec/60_exceptions.md R266), said once. -/

namespace Sys2Proof.Machine

/-- The mapper's address sets are MAPPER_CPU_RANGE. -/
theorem setCovers_mapperRange (a : Addr) : setCovers [mapperRange] a = isMapperAddr a := by
  have h : a ≤ 65535#16 := by bv_omega
  simp [setCovers, rangeCovers, mapperRange, isMapperAddr]
  exact fun _ => h

/-- A device whose descriptor names the mapper has R147's descriptor. -/
theorem descriptorOf_mapper {device : HostDevice} (h : (descriptorOf device).id = .mapper) :
    descriptorOf device = mapperDescriptor := by
  cases device with
  | mapper => rfl
  | external => exact absurd h (by simp [descriptorOf])

/-- Whatever index REGISTER is given, the mapper is registered with R147's descriptor alone. -/
theorem State.descriptorAt_mapper {s : State} {index : BitVec 8} (h : (s.descriptorAt index).id = .mapper) :
    s.descriptorAt index = mapperDescriptor := descriptorOf_mapper h

/-- Without override, the conflict is the lowest address of the set that has an entry. -/
theorem conflictOf_some {t : HandlerTable} {set : List AddrRange} {a : Addr} (hset : setCovers set a = true)
    (hentry : (t.lookup a).isSome = true)
    (hfirst : ∀ b, setCovers set b = true → (t.lookup b).isSome = true → a ≤ b) :
    conflictOf t set false = some a := by
  simp only [conflictOf, Bool.false_eq_true, if_false]
  cases hf : t.firstPresent set with
  | none => simp [HandlerTable.firstPresent_none hf hset] at hentry
  | some b =>
    obtain ⟨hb, hp, hle⟩ := HandlerTable.firstPresent_some hf
    exact congrArg some (BitVec.le_antisymm (hle a hset hentry) (hfirst b hb hp))

/-- There is no conflict with an overriding descriptor, nor with a set without entries. -/
theorem conflictOf_none {t : HandlerTable} {set : List AddrRange} {allowOverride : Bool}
    (h : allowOverride = true ∨ ∀ a, setCovers set a = true → t.lookup a = none) :
    conflictOf t set allowOverride = none := by
  unfold conflictOf
  split
  · rfl
  · next hno =>
    cases hf : t.firstPresent set with
    | none => rfl
    | some a =>
      obtain ⟨ha, hp, -⟩ := HandlerTable.firstPresent_some hf
      rcases h with h | h
      · exact absurd h hno
      · simp [h a ha] at hp

/-- What a conflict at `limit` leaves installed: the addresses of the set below it (R265). -/
theorem HandlerTable.lookup_installBelow (t : HandlerTable) (set : List AddrRange) (id : HandlerId) (limit b : Addr) :
    (t.install (setBelow limit set) id).lookup b =
      if setCovers set b = true ∧ b < limit then some id else t.lookup b := by
  rw [HandlerTable.lookup_install]
  by_cases h : setCovers (setBelow limit set) b = true
  · rw [if_pos h, if_pos ((setCovers_setBelow limit set b).1 h)]
  · rw [if_neg h, if_neg fun h' => h ((setCovers_setBelow limit set b).2 h')]

end Sys2Proof.Machine
end

