-- ==== Sys2Proof/Laws/Operands.lean ====
section
/-! SUPPORT. The operand forms as plain arithmetic on the address or command byte. -/

namespace Sys2Proof.Machine

theorem isRamAddr_iff (a : Addr) : isRamAddr a = true ↔ a.toNat ≤ 0x1FFF := by simp [isRamAddr, BitVec.le_def]

theorem isRamAddr_false_iff (a : Addr) : isRamAddr a = false ↔ 0x1FFF < a.toNat := by
  simp [isRamAddr, BitVec.lt_def]

theorem isMapperAddr_iff (a : Addr) : isMapperAddr a = true ↔ 0x8000 ≤ a.toNat := by
  simp [isMapperAddr, BitVec.le_def]

theorem isChrAddr_iff (n : Addr) : isChrAddr n = true ↔ n.toNat ≤ 0x1FFF := by simp [isChrAddr, BitVec.le_def]

theorem isChrAddr_false_iff (n : Addr) : isChrAddr n = false ↔ 0x1FFF < n.toNat := by
  simp [isChrAddr, BitVec.lt_def]

theorem ramIndex_eq (a : Addr) : ramIndex a = a.toNat % 0x0800 := by
  simp only [ramIndex, BitVec.toNat_and]
  exact Nat.and_two_pow_sub_one_eq_mod a.toNat 11

theorem ramIndex_lt (a : Addr) : ramIndex a < ramSize := by
  rw [ramIndex_eq]
  exact Nat.mod_lt _ (by decide)

theorem prgSlotOf_val (a : Addr) : (prgSlotOf a).val = (a.toNat - 0x8000) / 0x2000 := by
  have := a.isLt
  simp only [prgSlotOf, Fin.ofNat, Nat.shiftRight_eq_div_pow]
  omega

theorem prgOffset_eq (a : Addr) : prgOffset a = a.toNat % 0x2000 := by
  simp only [prgOffset, BitVec.toNat_and]
  exact Nat.and_two_pow_sub_one_eq_mod a.toNat 13

theorem nametableIndex_eq (n : Addr) : nametableIndex n = n.toNat % 0x0400 := by
  simp only [nametableIndex, BitVec.toNat_and]
  exact Nat.and_two_pow_sub_one_eq_mod n.toNat 10

theorem nametableIndex_lt (n : Addr) : nametableIndex n < nametableSize := by
  rw [nametableIndex_eq]
  exact Nat.mod_lt _ (by decide)

theorem quadrant_val (n : Addr) : (quadrant n).val = n.toNat / 0x0400 % 4 := by
  simp [quadrant, Nat.shiftRight_eq_div_pow]

theorem vramMask_toNat (a : Addr) : (a &&& 0x3FFF).toNat = a.toNat % 0x4000 := by
  simp only [BitVec.toNat_and]
  exact Nat.and_two_pow_sub_one_eq_mod a.toNat 14

/-- Normalization on numbers (spec/43_vram_bus.md R190). -/
theorem normVram_toNat (a : Addr) :
    (normVram a).toNat =
      if a.toNat % 0x4000 < 0x3000 then a.toNat % 0x4000 else a.toNat % 0x4000 - 0x1000 := by
  have hm := vramMask_toNat a
  have hlt : a.toNat % 0x4000 < 0x4000 := Nat.mod_lt _ (by decide)
  simp only [normVram, BitVec.le_def, hm]
  split
  · next h =>
    rw [if_neg (by simp at h; omega), BitVec.toNat_sub, hm]
    simp at h ⊢
    omega
  · next h =>
    rw [if_pos (by simp at h; omega), hm]

/-- A normalized address is below 0x3000 (R190). -/
theorem normVram_lt (a : Addr) : (normVram a).toNat < 0x3000 := by
  rw [normVram_toNat]
  split <;> omega

theorem subBank_eq (value : Byte) : subBank value = value.toNat / 128 := by
  simp [subBank, BitVec.toNat_ushiftRight, Nat.shiftRight_eq_div_pow]

theorem bank_eq (mask value : Byte) : bank mask value = (value &&& mask).toNat * 2 := by
  simp [bank, Nat.shiftLeft_eq]

theorem m15Sel_toNat (a : Addr) : (m15Sel a).toNat = a.toNat % 4 := by simp [m15Sel]

theorem addr_bit1 (a : Addr) : a.getLsbD 1 = decide (a.toNat / 2 % 2 = 1) := by
  simp [BitVec.getLsbD, Nat.testBit_eq_decide_div_mod_eq]

/-- With no patch active PATCH is the identity (spec/00_scope.md R8). -/
@[simp] theorem patchByte_nil (a : Addr) (v : Byte) : patchByte [] a v = v := rfl

/-- A number below 65536 is read back from its two bytes (spec/45_snapshot.md R241). -/
theorem le16_value {n : Nat} (h : n < 65536) :
    (BitVec.ofNat 8 n).toNat + 256 * (BitVec.ofNat 8 (n / 256)).toNat = n := by
  simp only [BitVec.toNat_ofNat]
  omega

end Sys2Proof.Machine
end

