-- ==== Sys2Proof/Laws/State.lean ====
section
/-! SUPPORT. One lemma for each field and each update of the state. Every one holds by unfolding the update once, so that
no later proof unfolds it again. -/

namespace Sys2Proof.Machine

/-! ## answer -/
@[simp] theorem State.answer_cfg (s : State) (r : TxnResult) : (s.answer r).cfg = s.cfg := rfl
@[simp] theorem State.answer_ram (s : State) (r : TxnResult) : (s.answer r).ram = s.ram := rfl
@[simp] theorem State.answer_nt0 (s : State) (r : TxnResult) : (s.answer r).nt0 = s.nt0 := rfl
@[simp] theorem State.answer_nt1 (s : State) (r : TxnResult) : (s.answer r).nt1 = s.nt1 := rfl
@[simp] theorem State.answer_openBus (s : State) (r : TxnResult) : (s.answer r).openBus = s.openBus := rfl
@[simp] theorem State.answer_readTable (s : State) (r : TxnResult) : (s.answer r).readTable = s.readTable := rfl
@[simp] theorem State.answer_writeTable (s : State) (r : TxnResult) : (s.answer r).writeTable = s.writeTable := rfl
@[simp] theorem State.answer_phase (s : State) (r : TxnResult) : (s.answer r).phase = s.phase := rfl
@[simp] theorem State.answer_cfgFault (s : State) (r : TxnResult) : (s.answer r).cfgFault = s.cfgFault := rfl
@[simp] theorem State.answer_refused (s : State) (r : TxnResult) : (s.answer r).refused = s.refused := rfl
@[simp] theorem State.answer_prgSlot (s : State) (r : TxnResult) : (s.answer r).prgSlot = s.prgSlot := rfl
@[simp] theorem State.answer_chrSlot (s : State) (r : TxnResult) : (s.answer r).chrSlot = s.chrSlot := rfl
@[simp] theorem State.answer_mirroring (s : State) (r : TxnResult) : (s.answer r).mirroring = s.mirroring := rfl
@[simp] theorem State.answer_chrRam (s : State) (r : TxnResult) : (s.answer r).chrRam = s.chrRam := rfl
@[simp] theorem State.answer_trace (s : State) (r : TxnResult) : (s.answer r).trace = s.trace := rfl
@[simp] theorem State.answer_deviceLog (s : State) (r : TxnResult) : (s.answer r).deviceLog = s.deviceLog := rfl
@[simp] theorem State.answer_notifyLog (s : State) (r : TxnResult) : (s.answer r).notifyLog = s.notifyLog := rfl
@[simp] theorem State.answer_results (s : State) (r : TxnResult) : (s.answer r).results = s.results ++ [r] := rfl
@[simp] theorem State.answer_pending (s : State) (r : TxnResult) : (s.answer r).pending = s.pending := rfl
@[simp] theorem State.answer_streams (s : State) (r : TxnResult) : (s.answer r).streams = s.streams := rfl
@[simp] theorem State.answer_answers (s : State) (r : TxnResult) : (s.answer r).answers = s.answers := rfl
@[simp] theorem State.answer_draws (s : State) (r : TxnResult) : (s.answer r).draws = s.draws := rfl

/-! ## traced -/
@[simp] theorem State.traced_cfg (s : State) (e : TraceEvent) : (s.traced e).cfg = s.cfg := rfl
@[simp] theorem State.traced_ram (s : State) (e : TraceEvent) : (s.traced e).ram = s.ram := rfl
@[simp] theorem State.traced_nt0 (s : State) (e : TraceEvent) : (s.traced e).nt0 = s.nt0 := rfl
@[simp] theorem State.traced_nt1 (s : State) (e : TraceEvent) : (s.traced e).nt1 = s.nt1 := rfl
@[simp] theorem State.traced_openBus (s : State) (e : TraceEvent) : (s.traced e).openBus = s.openBus := rfl
@[simp] theorem State.traced_readTable (s : State) (e : TraceEvent) : (s.traced e).readTable = s.readTable := rfl
@[simp] theorem State.traced_writeTable (s : State) (e : TraceEvent) : (s.traced e).writeTable = s.writeTable := rfl
@[simp] theorem State.traced_phase (s : State) (e : TraceEvent) : (s.traced e).phase = s.phase := rfl
@[simp] theorem State.traced_cfgFault (s : State) (e : TraceEvent) : (s.traced e).cfgFault = s.cfgFault := rfl
@[simp] theorem State.traced_refused (s : State) (e : TraceEvent) : (s.traced e).refused = s.refused := rfl
@[simp] theorem State.traced_prgSlot (s : State) (e : TraceEvent) : (s.traced e).prgSlot = s.prgSlot := rfl
@[simp] theorem State.traced_chrSlot (s : State) (e : TraceEvent) : (s.traced e).chrSlot = s.chrSlot := rfl
@[simp] theorem State.traced_mirroring (s : State) (e : TraceEvent) : (s.traced e).mirroring = s.mirroring := rfl
@[simp] theorem State.traced_chrRam (s : State) (e : TraceEvent) : (s.traced e).chrRam = s.chrRam := rfl
@[simp] theorem State.traced_trace (s : State) (e : TraceEvent) : (s.traced e).trace = s.trace ++ [e] := rfl
@[simp] theorem State.traced_deviceLog (s : State) (e : TraceEvent) : (s.traced e).deviceLog = s.deviceLog := rfl
@[simp] theorem State.traced_notifyLog (s : State) (e : TraceEvent) : (s.traced e).notifyLog = s.notifyLog := rfl
@[simp] theorem State.traced_results (s : State) (e : TraceEvent) : (s.traced e).results = s.results := rfl
@[simp] theorem State.traced_pending (s : State) (e : TraceEvent) : (s.traced e).pending = s.pending := rfl
@[simp] theorem State.traced_streams (s : State) (e : TraceEvent) : (s.traced e).streams = s.streams := rfl
@[simp] theorem State.traced_answers (s : State) (e : TraceEvent) : (s.traced e).answers = s.answers := rfl
@[simp] theorem State.traced_draws (s : State) (e : TraceEvent) : (s.traced e).draws = s.draws := rfl

/-! ## deviceCalled -/
@[simp] theorem State.deviceCalled_cfg (s : State) (c : DeviceCall) : (s.deviceCalled c).cfg = s.cfg := rfl
@[simp] theorem State.deviceCalled_ram (s : State) (c : DeviceCall) : (s.deviceCalled c).ram = s.ram := rfl
@[simp] theorem State.deviceCalled_nt0 (s : State) (c : DeviceCall) : (s.deviceCalled c).nt0 = s.nt0 := rfl
@[simp] theorem State.deviceCalled_nt1 (s : State) (c : DeviceCall) : (s.deviceCalled c).nt1 = s.nt1 := rfl
@[simp] theorem State.deviceCalled_openBus (s : State) (c : DeviceCall) : (s.deviceCalled c).openBus = s.openBus := rfl
@[simp] theorem State.deviceCalled_readTable (s : State) (c : DeviceCall) : (s.deviceCalled c).readTable = s.readTable := rfl
@[simp] theorem State.deviceCalled_writeTable (s : State) (c : DeviceCall) : (s.deviceCalled c).writeTable = s.writeTable := rfl
@[simp] theorem State.deviceCalled_phase (s : State) (c : DeviceCall) : (s.deviceCalled c).phase = s.phase := rfl
@[simp] theorem State.deviceCalled_cfgFault (s : State) (c : DeviceCall) : (s.deviceCalled c).cfgFault = s.cfgFault := rfl
@[simp] theorem State.deviceCalled_refused (s : State) (c : DeviceCall) : (s.deviceCalled c).refused = s.refused := rfl
@[simp] theorem State.deviceCalled_prgSlot (s : State) (c : DeviceCall) : (s.deviceCalled c).prgSlot = s.prgSlot := rfl
@[simp] theorem State.deviceCalled_chrSlot (s : State) (c : DeviceCall) : (s.deviceCalled c).chrSlot = s.chrSlot := rfl
@[simp] theorem State.deviceCalled_mirroring (s : State) (c : DeviceCall) : (s.deviceCalled c).mirroring = s.mirroring := rfl
@[simp] theorem State.deviceCalled_chrRam (s : State) (c : DeviceCall) : (s.deviceCalled c).chrRam = s.chrRam := rfl
@[simp] theorem State.deviceCalled_trace (s : State) (c : DeviceCall) : (s.deviceCalled c).trace = s.trace := rfl
@[simp] theorem State.deviceCalled_deviceLog (s : State) (c : DeviceCall) : (s.deviceCalled c).deviceLog = s.deviceLog ++ [c] := rfl
@[simp] theorem State.deviceCalled_notifyLog (s : State) (c : DeviceCall) : (s.deviceCalled c).notifyLog = s.notifyLog := rfl
@[simp] theorem State.deviceCalled_results (s : State) (c : DeviceCall) : (s.deviceCalled c).results = s.results := rfl
@[simp] theorem State.deviceCalled_pending (s : State) (c : DeviceCall) : (s.deviceCalled c).pending = s.pending := rfl
@[simp] theorem State.deviceCalled_streams (s : State) (c : DeviceCall) : (s.deviceCalled c).streams = s.streams := rfl
@[simp] theorem State.deviceCalled_answers (s : State) (c : DeviceCall) : (s.deviceCalled c).answers = s.answers := rfl
@[simp] theorem State.deviceCalled_draws (s : State) (c : DeviceCall) : (s.deviceCalled c).draws = s.draws := rfl

/-! ## setOpenBus -/
@[simp] theorem State.setOpenBus_cfg (s : State) (v : Byte) : (s.setOpenBus v).cfg = s.cfg := rfl
@[simp] theorem State.setOpenBus_ram (s : State) (v : Byte) : (s.setOpenBus v).ram = s.ram := rfl
@[simp] theorem State.setOpenBus_nt0 (s : State) (v : Byte) : (s.setOpenBus v).nt0 = s.nt0 := rfl
@[simp] theorem State.setOpenBus_nt1 (s : State) (v : Byte) : (s.setOpenBus v).nt1 = s.nt1 := rfl
@[simp] theorem State.setOpenBus_openBus (s : State) (v : Byte) : (s.setOpenBus v).openBus = v := rfl
@[simp] theorem State.setOpenBus_readTable (s : State) (v : Byte) : (s.setOpenBus v).readTable = s.readTable := rfl
@[simp] theorem State.setOpenBus_writeTable (s : State) (v : Byte) : (s.setOpenBus v).writeTable = s.writeTable := rfl
@[simp] theorem State.setOpenBus_phase (s : State) (v : Byte) : (s.setOpenBus v).phase = s.phase := rfl
@[simp] theorem State.setOpenBus_cfgFault (s : State) (v : Byte) : (s.setOpenBus v).cfgFault = s.cfgFault := rfl
@[simp] theorem State.setOpenBus_refused (s : State) (v : Byte) : (s.setOpenBus v).refused = s.refused := rfl
@[simp] theorem State.setOpenBus_prgSlot (s : State) (v : Byte) : (s.setOpenBus v).prgSlot = s.prgSlot := rfl
@[simp] theorem State.setOpenBus_chrSlot (s : State) (v : Byte) : (s.setOpenBus v).chrSlot = s.chrSlot := rfl
@[simp] theorem State.setOpenBus_mirroring (s : State) (v : Byte) : (s.setOpenBus v).mirroring = s.mirroring := rfl
@[simp] theorem State.setOpenBus_chrRam (s : State) (v : Byte) : (s.setOpenBus v).chrRam = s.chrRam := rfl
@[simp] theorem State.setOpenBus_trace (s : State) (v : Byte) : (s.setOpenBus v).trace = s.trace := rfl
@[simp] theorem State.setOpenBus_deviceLog (s : State) (v : Byte) : (s.setOpenBus v).deviceLog = s.deviceLog := rfl
@[simp] theorem State.setOpenBus_notifyLog (s : State) (v : Byte) : (s.setOpenBus v).notifyLog = s.notifyLog := rfl
@[simp] theorem State.setOpenBus_results (s : State) (v : Byte) : (s.setOpenBus v).results = s.results := rfl
@[simp] theorem State.setOpenBus_pending (s : State) (v : Byte) : (s.setOpenBus v).pending = s.pending := rfl
@[simp] theorem State.setOpenBus_streams (s : State) (v : Byte) : (s.setOpenBus v).streams = s.streams := rfl
@[simp] theorem State.setOpenBus_answers (s : State) (v : Byte) : (s.setOpenBus v).answers = s.answers := rfl
@[simp] theorem State.setOpenBus_draws (s : State) (v : Byte) : (s.setOpenBus v).draws = s.draws := rfl

/-! ## recordRefusal -/
@[simp] theorem State.recordRefusal_cfg (s : State) (r : RefuseReason) : (s.recordRefusal r).cfg = s.cfg := rfl
@[simp] theorem State.recordRefusal_ram (s : State) (r : RefuseReason) : (s.recordRefusal r).ram = s.ram := rfl
@[simp] theorem State.recordRefusal_nt0 (s : State) (r : RefuseReason) : (s.recordRefusal r).nt0 = s.nt0 := rfl
@[simp] theorem State.recordRefusal_nt1 (s : State) (r : RefuseReason) : (s.recordRefusal r).nt1 = s.nt1 := rfl
@[simp] theorem State.recordRefusal_openBus (s : State) (r : RefuseReason) : (s.recordRefusal r).openBus = s.openBus := rfl
@[simp] theorem State.recordRefusal_readTable (s : State) (r : RefuseReason) : (s.recordRefusal r).readTable = s.readTable := rfl
@[simp] theorem State.recordRefusal_writeTable (s : State) (r : RefuseReason) : (s.recordRefusal r).writeTable = s.writeTable := rfl
@[simp] theorem State.recordRefusal_phase (s : State) (r : RefuseReason) : (s.recordRefusal r).phase = s.phase := rfl
@[simp] theorem State.recordRefusal_cfgFault (s : State) (r : RefuseReason) : (s.recordRefusal r).cfgFault = s.cfgFault := rfl
@[simp] theorem State.recordRefusal_refused (s : State) (r : RefuseReason) : (s.recordRefusal r).refused = s.refused.or (some r) := rfl
@[simp] theorem State.recordRefusal_prgSlot (s : State) (r : RefuseReason) : (s.recordRefusal r).prgSlot = s.prgSlot := rfl
@[simp] theorem State.recordRefusal_chrSlot (s : State) (r : RefuseReason) : (s.recordRefusal r).chrSlot = s.chrSlot := rfl
@[simp] theorem State.recordRefusal_mirroring (s : State) (r : RefuseReason) : (s.recordRefusal r).mirroring = s.mirroring := rfl
@[simp] theorem State.recordRefusal_chrRam (s : State) (r : RefuseReason) : (s.recordRefusal r).chrRam = s.chrRam := rfl
@[simp] theorem State.recordRefusal_trace (s : State) (r : RefuseReason) : (s.recordRefusal r).trace = s.trace := rfl
@[simp] theorem State.recordRefusal_deviceLog (s : State) (r : RefuseReason) : (s.recordRefusal r).deviceLog = s.deviceLog := rfl
@[simp] theorem State.recordRefusal_notifyLog (s : State) (r : RefuseReason) : (s.recordRefusal r).notifyLog = s.notifyLog := rfl
@[simp] theorem State.recordRefusal_results (s : State) (r : RefuseReason) : (s.recordRefusal r).results = s.results := rfl
@[simp] theorem State.recordRefusal_pending (s : State) (r : RefuseReason) : (s.recordRefusal r).pending = s.pending := rfl
@[simp] theorem State.recordRefusal_streams (s : State) (r : RefuseReason) : (s.recordRefusal r).streams = s.streams := rfl
@[simp] theorem State.recordRefusal_answers (s : State) (r : RefuseReason) : (s.recordRefusal r).answers = s.answers := rfl
@[simp] theorem State.recordRefusal_draws (s : State) (r : RefuseReason) : (s.recordRefusal r).draws = s.draws := rfl

/-! ## refuse -/
@[simp] theorem State.refuse_cfg (s : State) (r : RefuseReason) : (s.refuse r).cfg = s.cfg := rfl
@[simp] theorem State.refuse_ram (s : State) (r : RefuseReason) : (s.refuse r).ram = s.ram := rfl
@[simp] theorem State.refuse_nt0 (s : State) (r : RefuseReason) : (s.refuse r).nt0 = s.nt0 := rfl
@[simp] theorem State.refuse_nt1 (s : State) (r : RefuseReason) : (s.refuse r).nt1 = s.nt1 := rfl
@[simp] theorem State.refuse_openBus (s : State) (r : RefuseReason) : (s.refuse r).openBus = s.openBus := rfl
@[simp] theorem State.refuse_readTable (s : State) (r : RefuseReason) : (s.refuse r).readTable = s.readTable := rfl
@[simp] theorem State.refuse_writeTable (s : State) (r : RefuseReason) : (s.refuse r).writeTable = s.writeTable := rfl
@[simp] theorem State.refuse_phase (s : State) (r : RefuseReason) : (s.refuse r).phase = s.phase := rfl
@[simp] theorem State.refuse_cfgFault (s : State) (r : RefuseReason) : (s.refuse r).cfgFault = s.cfgFault := rfl
@[simp] theorem State.refuse_refused (s : State) (r : RefuseReason) : (s.refuse r).refused = s.refused.or (some r) := rfl
@[simp] theorem State.refuse_prgSlot (s : State) (r : RefuseReason) : (s.refuse r).prgSlot = s.prgSlot := rfl
@[simp] theorem State.refuse_chrSlot (s : State) (r : RefuseReason) : (s.refuse r).chrSlot = s.chrSlot := rfl
@[simp] theorem State.refuse_mirroring (s : State) (r : RefuseReason) : (s.refuse r).mirroring = s.mirroring := rfl
@[simp] theorem State.refuse_chrRam (s : State) (r : RefuseReason) : (s.refuse r).chrRam = s.chrRam := rfl
@[simp] theorem State.refuse_trace (s : State) (r : RefuseReason) : (s.refuse r).trace = s.trace := rfl
@[simp] theorem State.refuse_deviceLog (s : State) (r : RefuseReason) : (s.refuse r).deviceLog = s.deviceLog := rfl
@[simp] theorem State.refuse_notifyLog (s : State) (r : RefuseReason) : (s.refuse r).notifyLog = s.notifyLog := rfl
@[simp] theorem State.refuse_results (s : State) (r : RefuseReason) : (s.refuse r).results = s.results ++ [.refused r] := rfl
@[simp] theorem State.refuse_pending (s : State) (r : RefuseReason) : (s.refuse r).pending = s.pending := rfl
@[simp] theorem State.refuse_streams (s : State) (r : RefuseReason) : (s.refuse r).streams = s.streams := rfl
@[simp] theorem State.refuse_answers (s : State) (r : RefuseReason) : (s.refuse r).answers = s.answers := rfl
@[simp] theorem State.refuse_draws (s : State) (r : RefuseReason) : (s.refuse r).draws = s.draws := rfl

/-! ## raiseConfigurationError -/
@[simp] theorem State.raiseConfigurationError_cfg (s : State) (f : ConfigFault) : (s.raiseConfigurationError f).cfg = s.cfg := rfl
@[simp] theorem State.raiseConfigurationError_ram (s : State) (f : ConfigFault) : (s.raiseConfigurationError f).ram = s.ram := rfl
@[simp] theorem State.raiseConfigurationError_nt0 (s : State) (f : ConfigFault) : (s.raiseConfigurationError f).nt0 = s.nt0 := rfl
@[simp] theorem State.raiseConfigurationError_nt1 (s : State) (f : ConfigFault) : (s.raiseConfigurationError f).nt1 = s.nt1 := rfl
@[simp] theorem State.raiseConfigurationError_openBus (s : State) (f : ConfigFault) : (s.raiseConfigurationError f).openBus = s.openBus := rfl
@[simp] theorem State.raiseConfigurationError_readTable (s : State) (f : ConfigFault) : (s.raiseConfigurationError f).readTable = s.readTable := rfl
@[simp] theorem State.raiseConfigurationError_writeTable (s : State) (f : ConfigFault) : (s.raiseConfigurationError f).writeTable = s.writeTable := rfl
@[simp] theorem State.raiseConfigurationError_phase (s : State) (f : ConfigFault) : (s.raiseConfigurationError f).phase = .failed := rfl
@[simp] theorem State.raiseConfigurationError_cfgFault (s : State) (f : ConfigFault) : (s.raiseConfigurationError f).cfgFault = some f := rfl
@[simp] theorem State.raiseConfigurationError_refused (s : State) (f : ConfigFault) : (s.raiseConfigurationError f).refused = s.refused := rfl
@[simp] theorem State.raiseConfigurationError_prgSlot (s : State) (f : ConfigFault) : (s.raiseConfigurationError f).prgSlot = s.prgSlot := rfl
@[simp] theorem State.raiseConfigurationError_chrSlot (s : State) (f : ConfigFault) : (s.raiseConfigurationError f).chrSlot = s.chrSlot := rfl
@[simp] theorem State.raiseConfigurationError_mirroring (s : State) (f : ConfigFault) : (s.raiseConfigurationError f).mirroring = s.mirroring := rfl
@[simp] theorem State.raiseConfigurationError_chrRam (s : State) (f : ConfigFault) : (s.raiseConfigurationError f).chrRam = s.chrRam := rfl
@[simp] theorem State.raiseConfigurationError_trace (s : State) (f : ConfigFault) : (s.raiseConfigurationError f).trace = s.trace := rfl
@[simp] theorem State.raiseConfigurationError_deviceLog (s : State) (f : ConfigFault) : (s.raiseConfigurationError f).deviceLog = s.deviceLog := rfl
@[simp] theorem State.raiseConfigurationError_notifyLog (s : State) (f : ConfigFault) : (s.raiseConfigurationError f).notifyLog = s.notifyLog := rfl
@[simp] theorem State.raiseConfigurationError_results (s : State) (f : ConfigFault) : (s.raiseConfigurationError f).results = s.results ++ [.configurationError f] := rfl
@[simp] theorem State.raiseConfigurationError_pending (s : State) (f : ConfigFault) : (s.raiseConfigurationError f).pending = s.pending := rfl
@[simp] theorem State.raiseConfigurationError_streams (s : State) (f : ConfigFault) : (s.raiseConfigurationError f).streams = s.streams := rfl
@[simp] theorem State.raiseConfigurationError_answers (s : State) (f : ConfigFault) : (s.raiseConfigurationError f).answers = s.answers := rfl
@[simp] theorem State.raiseConfigurationError_draws (s : State) (f : ConfigFault) : (s.raiseConfigurationError f).draws = s.draws := rfl

/-! ## setRam -/
@[simp] theorem State.setRam_cfg (s : State) (i : Nat) (v : Byte) : (s.setRam i v).cfg = s.cfg := rfl
@[simp] theorem State.setRam_ram (s : State) (i : Nat) (v : Byte) : (s.setRam i v).ram = s.ram.write i v := rfl
@[simp] theorem State.setRam_nt0 (s : State) (i : Nat) (v : Byte) : (s.setRam i v).nt0 = s.nt0 := rfl
@[simp] theorem State.setRam_nt1 (s : State) (i : Nat) (v : Byte) : (s.setRam i v).nt1 = s.nt1 := rfl
@[simp] theorem State.setRam_openBus (s : State) (i : Nat) (v : Byte) : (s.setRam i v).openBus = s.openBus := rfl
@[simp] theorem State.setRam_readTable (s : State) (i : Nat) (v : Byte) : (s.setRam i v).readTable = s.readTable := rfl
@[simp] theorem State.setRam_writeTable (s : State) (i : Nat) (v : Byte) : (s.setRam i v).writeTable = s.writeTable := rfl
@[simp] theorem State.setRam_phase (s : State) (i : Nat) (v : Byte) : (s.setRam i v).phase = s.phase := rfl
@[simp] theorem State.setRam_cfgFault (s : State) (i : Nat) (v : Byte) : (s.setRam i v).cfgFault = s.cfgFault := rfl
@[simp] theorem State.setRam_refused (s : State) (i : Nat) (v : Byte) : (s.setRam i v).refused = s.refused := rfl
@[simp] theorem State.setRam_prgSlot (s : State) (i : Nat) (v : Byte) : (s.setRam i v).prgSlot = s.prgSlot := rfl
@[simp] theorem State.setRam_chrSlot (s : State) (i : Nat) (v : Byte) : (s.setRam i v).chrSlot = s.chrSlot := rfl
@[simp] theorem State.setRam_mirroring (s : State) (i : Nat) (v : Byte) : (s.setRam i v).mirroring = s.mirroring := rfl
@[simp] theorem State.setRam_chrRam (s : State) (i : Nat) (v : Byte) : (s.setRam i v).chrRam = s.chrRam := rfl
@[simp] theorem State.setRam_trace (s : State) (i : Nat) (v : Byte) : (s.setRam i v).trace = s.trace := rfl
@[simp] theorem State.setRam_deviceLog (s : State) (i : Nat) (v : Byte) : (s.setRam i v).deviceLog = s.deviceLog := rfl
@[simp] theorem State.setRam_notifyLog (s : State) (i : Nat) (v : Byte) : (s.setRam i v).notifyLog = s.notifyLog := rfl
@[simp] theorem State.setRam_results (s : State) (i : Nat) (v : Byte) : (s.setRam i v).results = s.results := rfl
@[simp] theorem State.setRam_pending (s : State) (i : Nat) (v : Byte) : (s.setRam i v).pending = s.pending := rfl
@[simp] theorem State.setRam_streams (s : State) (i : Nat) (v : Byte) : (s.setRam i v).streams = s.streams := rfl
@[simp] theorem State.setRam_answers (s : State) (i : Nat) (v : Byte) : (s.setRam i v).answers = s.answers := rfl
@[simp] theorem State.setRam_draws (s : State) (i : Nat) (v : Byte) : (s.setRam i v).draws = s.draws := rfl

/-! ## setMirroringType -/
@[simp] theorem State.setMirroringType_cfg (s : State) (m : MirroringMode) : (s.setMirroringType m).cfg = s.cfg := rfl
@[simp] theorem State.setMirroringType_ram (s : State) (m : MirroringMode) : (s.setMirroringType m).ram = s.ram := rfl
@[simp] theorem State.setMirroringType_nt0 (s : State) (m : MirroringMode) : (s.setMirroringType m).nt0 = s.nt0 := rfl
@[simp] theorem State.setMirroringType_nt1 (s : State) (m : MirroringMode) : (s.setMirroringType m).nt1 = s.nt1 := rfl
@[simp] theorem State.setMirroringType_openBus (s : State) (m : MirroringMode) : (s.setMirroringType m).openBus = s.openBus := rfl
@[simp] theorem State.setMirroringType_readTable (s : State) (m : MirroringMode) : (s.setMirroringType m).readTable = s.readTable := rfl
@[simp] theorem State.setMirroringType_writeTable (s : State) (m : MirroringMode) : (s.setMirroringType m).writeTable = s.writeTable := rfl
@[simp] theorem State.setMirroringType_phase (s : State) (m : MirroringMode) : (s.setMirroringType m).phase = s.phase := rfl
@[simp] theorem State.setMirroringType_cfgFault (s : State) (m : MirroringMode) : (s.setMirroringType m).cfgFault = s.cfgFault := rfl
@[simp] theorem State.setMirroringType_refused (s : State) (m : MirroringMode) : (s.setMirroringType m).refused = s.refused := rfl
@[simp] theorem State.setMirroringType_prgSlot (s : State) (m : MirroringMode) : (s.setMirroringType m).prgSlot = s.prgSlot := rfl
@[simp] theorem State.setMirroringType_chrSlot (s : State) (m : MirroringMode) : (s.setMirroringType m).chrSlot = s.chrSlot := rfl
@[simp] theorem State.setMirroringType_mirroring (s : State) (m : MirroringMode) : (s.setMirroringType m).mirroring = m := rfl
@[simp] theorem State.setMirroringType_chrRam (s : State) (m : MirroringMode) : (s.setMirroringType m).chrRam = s.chrRam := rfl
@[simp] theorem State.setMirroringType_trace (s : State) (m : MirroringMode) : (s.setMirroringType m).trace = s.trace := rfl
@[simp] theorem State.setMirroringType_deviceLog (s : State) (m : MirroringMode) : (s.setMirroringType m).deviceLog = s.deviceLog := rfl
@[simp] theorem State.setMirroringType_notifyLog (s : State) (m : MirroringMode) : (s.setMirroringType m).notifyLog = s.notifyLog := rfl
@[simp] theorem State.setMirroringType_results (s : State) (m : MirroringMode) : (s.setMirroringType m).results = s.results := rfl
@[simp] theorem State.setMirroringType_pending (s : State) (m : MirroringMode) : (s.setMirroringType m).pending = s.pending := rfl
@[simp] theorem State.setMirroringType_streams (s : State) (m : MirroringMode) : (s.setMirroringType m).streams = s.streams := rfl
@[simp] theorem State.setMirroringType_answers (s : State) (m : MirroringMode) : (s.setMirroringType m).answers = s.answers := rfl
@[simp] theorem State.setMirroringType_draws (s : State) (m : MirroringMode) : (s.setMirroringType m).draws = s.draws := rfl

/-! ## mapperNotify -/
@[simp] theorem State.mapperNotify_cfg (s : State) (n : Addr) : (s.mapperNotify n).cfg = s.cfg := rfl
@[simp] theorem State.mapperNotify_ram (s : State) (n : Addr) : (s.mapperNotify n).ram = s.ram := rfl
@[simp] theorem State.mapperNotify_nt0 (s : State) (n : Addr) : (s.mapperNotify n).nt0 = s.nt0 := rfl
@[simp] theorem State.mapperNotify_nt1 (s : State) (n : Addr) : (s.mapperNotify n).nt1 = s.nt1 := rfl
@[simp] theorem State.mapperNotify_openBus (s : State) (n : Addr) : (s.mapperNotify n).openBus = s.openBus := rfl
@[simp] theorem State.mapperNotify_readTable (s : State) (n : Addr) : (s.mapperNotify n).readTable = s.readTable := rfl
@[simp] theorem State.mapperNotify_writeTable (s : State) (n : Addr) : (s.mapperNotify n).writeTable = s.writeTable := rfl
@[simp] theorem State.mapperNotify_phase (s : State) (n : Addr) : (s.mapperNotify n).phase = s.phase := rfl
@[simp] theorem State.mapperNotify_cfgFault (s : State) (n : Addr) : (s.mapperNotify n).cfgFault = s.cfgFault := rfl
@[simp] theorem State.mapperNotify_refused (s : State) (n : Addr) : (s.mapperNotify n).refused = s.refused := rfl
@[simp] theorem State.mapperNotify_prgSlot (s : State) (n : Addr) : (s.mapperNotify n).prgSlot = s.prgSlot := rfl
@[simp] theorem State.mapperNotify_chrSlot (s : State) (n : Addr) : (s.mapperNotify n).chrSlot = s.chrSlot := rfl
@[simp] theorem State.mapperNotify_mirroring (s : State) (n : Addr) : (s.mapperNotify n).mirroring = s.mirroring := rfl
@[simp] theorem State.mapperNotify_chrRam (s : State) (n : Addr) : (s.mapperNotify n).chrRam = s.chrRam := rfl
@[simp] theorem State.mapperNotify_trace (s : State) (n : Addr) : (s.mapperNotify n).trace = s.trace := rfl
@[simp] theorem State.mapperNotify_deviceLog (s : State) (n : Addr) : (s.mapperNotify n).deviceLog = s.deviceLog := rfl
@[simp] theorem State.mapperNotify_notifyLog (s : State) (n : Addr) : (s.mapperNotify n).notifyLog = s.notifyLog ++ [n] := rfl
@[simp] theorem State.mapperNotify_results (s : State) (n : Addr) : (s.mapperNotify n).results = s.results := rfl
@[simp] theorem State.mapperNotify_pending (s : State) (n : Addr) : (s.mapperNotify n).pending = s.pending := rfl
@[simp] theorem State.mapperNotify_streams (s : State) (n : Addr) : (s.mapperNotify n).streams = s.streams := rfl
@[simp] theorem State.mapperNotify_answers (s : State) (n : Addr) : (s.mapperNotify n).answers = s.answers := rfl
@[simp] theorem State.mapperNotify_draws (s : State) (n : Addr) : (s.mapperNotify n).draws = s.draws := rfl

/-! ## phaseStep -/
@[simp] theorem State.phaseStep_cfg (s : State) : (s.phaseStep).cfg = s.cfg := by
  unfold State.phaseStep; split <;> rfl
@[simp] theorem State.phaseStep_ram (s : State) : (s.phaseStep).ram = s.ram := by
  unfold State.phaseStep; split <;> rfl
@[simp] theorem State.phaseStep_nt0 (s : State) : (s.phaseStep).nt0 = s.nt0 := by
  unfold State.phaseStep; split <;> rfl
@[simp] theorem State.phaseStep_nt1 (s : State) : (s.phaseStep).nt1 = s.nt1 := by
  unfold State.phaseStep; split <;> rfl
@[simp] theorem State.phaseStep_openBus (s : State) : (s.phaseStep).openBus = s.openBus := by
  unfold State.phaseStep; split <;> rfl
@[simp] theorem State.phaseStep_readTable (s : State) : (s.phaseStep).readTable = s.readTable := by
  unfold State.phaseStep; split <;> rfl
@[simp] theorem State.phaseStep_writeTable (s : State) : (s.phaseStep).writeTable = s.writeTable := by
  unfold State.phaseStep; split <;> rfl
@[simp] theorem State.phaseStep_cfgFault (s : State) : (s.phaseStep).cfgFault = s.cfgFault := by
  unfold State.phaseStep; split <;> rfl
@[simp] theorem State.phaseStep_refused (s : State) : (s.phaseStep).refused = s.refused := by
  unfold State.phaseStep; split <;> rfl
@[simp] theorem State.phaseStep_prgSlot (s : State) : (s.phaseStep).prgSlot = s.prgSlot := by
  unfold State.phaseStep; split <;> rfl
@[simp] theorem State.phaseStep_chrSlot (s : State) : (s.phaseStep).chrSlot = s.chrSlot := by
  unfold State.phaseStep; split <;> rfl
@[simp] theorem State.phaseStep_mirroring (s : State) : (s.phaseStep).mirroring = s.mirroring := by
  unfold State.phaseStep; split <;> rfl
@[simp] theorem State.phaseStep_chrRam (s : State) : (s.phaseStep).chrRam = s.chrRam := by
  unfold State.phaseStep; split <;> rfl
@[simp] theorem State.phaseStep_trace (s : State) : (s.phaseStep).trace = s.trace := by
  unfold State.phaseStep; split <;> rfl
@[simp] theorem State.phaseStep_deviceLog (s : State) : (s.phaseStep).deviceLog = s.deviceLog := by
  unfold State.phaseStep; split <;> rfl
@[simp] theorem State.phaseStep_notifyLog (s : State) : (s.phaseStep).notifyLog = s.notifyLog := by
  unfold State.phaseStep; split <;> rfl
@[simp] theorem State.phaseStep_results (s : State) : (s.phaseStep).results = s.results := by
  unfold State.phaseStep; split <;> rfl
@[simp] theorem State.phaseStep_pending (s : State) : (s.phaseStep).pending = s.pending := by
  unfold State.phaseStep; split <;> rfl
@[simp] theorem State.phaseStep_streams (s : State) : (s.phaseStep).streams = s.streams := by
  unfold State.phaseStep; split <;> rfl
@[simp] theorem State.phaseStep_answers (s : State) : (s.phaseStep).answers = s.answers := by
  unfold State.phaseStep; split <;> rfl
@[simp] theorem State.phaseStep_draws (s : State) : (s.phaseStep).draws = s.draws := by
  unfold State.phaseStep; split <;> rfl

/-! ## setNt -/
@[simp] theorem State.setNt_cfg (s : State) (p : Fin 2) (i : Nat) (v : Byte) : (s.setNt p i v).cfg = s.cfg := by
  unfold State.setNt; split <;> rfl
@[simp] theorem State.setNt_ram (s : State) (p : Fin 2) (i : Nat) (v : Byte) : (s.setNt p i v).ram = s.ram := by
  unfold State.setNt; split <;> rfl
@[simp] theorem State.setNt_nt0 (s : State) (p : Fin 2) (i : Nat) (v : Byte) : (s.setNt p i v).nt0 = if p = 0 then s.nt0.write i v else s.nt0 := by
  unfold State.setNt; split <;> rfl
@[simp] theorem State.setNt_nt1 (s : State) (p : Fin 2) (i : Nat) (v : Byte) : (s.setNt p i v).nt1 = if p = 0 then s.nt1 else s.nt1.write i v := by
  unfold State.setNt; split <;> rfl
@[simp] theorem State.setNt_openBus (s : State) (p : Fin 2) (i : Nat) (v : Byte) : (s.setNt p i v).openBus = s.openBus := by
  unfold State.setNt; split <;> rfl
@[simp] theorem State.setNt_readTable (s : State) (p : Fin 2) (i : Nat) (v : Byte) : (s.setNt p i v).readTable = s.readTable := by
  unfold State.setNt; split <;> rfl
@[simp] theorem State.setNt_writeTable (s : State) (p : Fin 2) (i : Nat) (v : Byte) : (s.setNt p i v).writeTable = s.writeTable := by
  unfold State.setNt; split <;> rfl
@[simp] theorem State.setNt_phase (s : State) (p : Fin 2) (i : Nat) (v : Byte) : (s.setNt p i v).phase = s.phase := by
  unfold State.setNt; split <;> rfl
@[simp] theorem State.setNt_cfgFault (s : State) (p : Fin 2) (i : Nat) (v : Byte) : (s.setNt p i v).cfgFault = s.cfgFault := by
  unfold State.setNt; split <;> rfl
@[simp] theorem State.setNt_refused (s : State) (p : Fin 2) (i : Nat) (v : Byte) : (s.setNt p i v).refused = s.refused := by
  unfold State.setNt; split <;> rfl
@[simp] theorem State.setNt_prgSlot (s : State) (p : Fin 2) (i : Nat) (v : Byte) : (s.setNt p i v).prgSlot = s.prgSlot := by
  unfold State.setNt; split <;> rfl
@[simp] theorem State.setNt_chrSlot (s : State) (p : Fin 2) (i : Nat) (v : Byte) : (s.setNt p i v).chrSlot = s.chrSlot := by
  unfold State.setNt; split <;> rfl
@[simp] theorem State.setNt_mirroring (s : State) (p : Fin 2) (i : Nat) (v : Byte) : (s.setNt p i v).mirroring = s.mirroring := by
  unfold State.setNt; split <;> rfl
@[simp] theorem State.setNt_chrRam (s : State) (p : Fin 2) (i : Nat) (v : Byte) : (s.setNt p i v).chrRam = s.chrRam := by
  unfold State.setNt; split <;> rfl
@[simp] theorem State.setNt_trace (s : State) (p : Fin 2) (i : Nat) (v : Byte) : (s.setNt p i v).trace = s.trace := by
  unfold State.setNt; split <;> rfl
@[simp] theorem State.setNt_deviceLog (s : State) (p : Fin 2) (i : Nat) (v : Byte) : (s.setNt p i v).deviceLog = s.deviceLog := by
  unfold State.setNt; split <;> rfl
@[simp] theorem State.setNt_notifyLog (s : State) (p : Fin 2) (i : Nat) (v : Byte) : (s.setNt p i v).notifyLog = s.notifyLog := by
  unfold State.setNt; split <;> rfl
@[simp] theorem State.setNt_results (s : State) (p : Fin 2) (i : Nat) (v : Byte) : (s.setNt p i v).results = s.results := by
  unfold State.setNt; split <;> rfl
@[simp] theorem State.setNt_pending (s : State) (p : Fin 2) (i : Nat) (v : Byte) : (s.setNt p i v).pending = s.pending := by
  unfold State.setNt; split <;> rfl
@[simp] theorem State.setNt_streams (s : State) (p : Fin 2) (i : Nat) (v : Byte) : (s.setNt p i v).streams = s.streams := by
  unfold State.setNt; split <;> rfl
@[simp] theorem State.setNt_answers (s : State) (p : Fin 2) (i : Nat) (v : Byte) : (s.setNt p i v).answers = s.answers := by
  unfold State.setNt; split <;> rfl
@[simp] theorem State.setNt_draws (s : State) (p : Fin 2) (i : Nat) (v : Byte) : (s.setNt p i v).draws = s.draws := by
  unfold State.setNt; split <;> rfl

/-! ## setChr -/
@[simp] theorem State.setChr_cfg (s : State) (i : Nat) (v : Byte) : (s.setChr i v).cfg = s.cfg := by
  unfold State.setChr; split <;> rfl
@[simp] theorem State.setChr_ram (s : State) (i : Nat) (v : Byte) : (s.setChr i v).ram = s.ram := by
  unfold State.setChr; split <;> rfl
@[simp] theorem State.setChr_nt0 (s : State) (i : Nat) (v : Byte) : (s.setChr i v).nt0 = s.nt0 := by
  unfold State.setChr; split <;> rfl
@[simp] theorem State.setChr_nt1 (s : State) (i : Nat) (v : Byte) : (s.setChr i v).nt1 = s.nt1 := by
  unfold State.setChr; split <;> rfl
@[simp] theorem State.setChr_openBus (s : State) (i : Nat) (v : Byte) : (s.setChr i v).openBus = s.openBus := by
  unfold State.setChr; split <;> rfl
@[simp] theorem State.setChr_readTable (s : State) (i : Nat) (v : Byte) : (s.setChr i v).readTable = s.readTable := by
  unfold State.setChr; split <;> rfl
@[simp] theorem State.setChr_writeTable (s : State) (i : Nat) (v : Byte) : (s.setChr i v).writeTable = s.writeTable := by
  unfold State.setChr; split <;> rfl
@[simp] theorem State.setChr_phase (s : State) (i : Nat) (v : Byte) : (s.setChr i v).phase = s.phase := by
  unfold State.setChr; split <;> rfl
@[simp] theorem State.setChr_cfgFault (s : State) (i : Nat) (v : Byte) : (s.setChr i v).cfgFault = s.cfgFault := by
  unfold State.setChr; split <;> rfl
@[simp] theorem State.setChr_refused (s : State) (i : Nat) (v : Byte) : (s.setChr i v).refused = s.refused := by
  unfold State.setChr; split <;> rfl
@[simp] theorem State.setChr_prgSlot (s : State) (i : Nat) (v : Byte) : (s.setChr i v).prgSlot = s.prgSlot := by
  unfold State.setChr; split <;> rfl
@[simp] theorem State.setChr_chrSlot (s : State) (i : Nat) (v : Byte) : (s.setChr i v).chrSlot = s.chrSlot := by
  unfold State.setChr; split <;> rfl
@[simp] theorem State.setChr_mirroring (s : State) (i : Nat) (v : Byte) : (s.setChr i v).mirroring = s.mirroring := by
  unfold State.setChr; split <;> rfl
@[simp] theorem State.setChr_chrRam (s : State) (i : Nat) (v : Byte) : (s.setChr i v).chrRam = if s.cfg.chrWritable then s.chrRam.write i v else s.chrRam := by
  unfold State.setChr; split <;> rfl
@[simp] theorem State.setChr_trace (s : State) (i : Nat) (v : Byte) : (s.setChr i v).trace = s.trace := by
  unfold State.setChr; split <;> rfl
@[simp] theorem State.setChr_deviceLog (s : State) (i : Nat) (v : Byte) : (s.setChr i v).deviceLog = s.deviceLog := by
  unfold State.setChr; split <;> rfl
@[simp] theorem State.setChr_notifyLog (s : State) (i : Nat) (v : Byte) : (s.setChr i v).notifyLog = s.notifyLog := by
  unfold State.setChr; split <;> rfl
@[simp] theorem State.setChr_results (s : State) (i : Nat) (v : Byte) : (s.setChr i v).results = s.results := by
  unfold State.setChr; split <;> rfl
@[simp] theorem State.setChr_pending (s : State) (i : Nat) (v : Byte) : (s.setChr i v).pending = s.pending := by
  unfold State.setChr; split <;> rfl
@[simp] theorem State.setChr_streams (s : State) (i : Nat) (v : Byte) : (s.setChr i v).streams = s.streams := by
  unfold State.setChr; split <;> rfl
@[simp] theorem State.setChr_answers (s : State) (i : Nat) (v : Byte) : (s.setChr i v).answers = s.answers := by
  unfold State.setChr; split <;> rfl
@[simp] theorem State.setChr_draws (s : State) (i : Nat) (v : Byte) : (s.setChr i v).draws = s.draws := by
  unfold State.setChr; split <;> rfl

/-! ## redrawChrRam -/
@[simp] theorem State.redrawChrRam_cfg (s : State) : (s.redrawChrRam).cfg = s.cfg := by
  unfold State.redrawChrRam; split <;> rfl
@[simp] theorem State.redrawChrRam_ram (s : State) : (s.redrawChrRam).ram = s.ram := by
  unfold State.redrawChrRam; split <;> rfl
@[simp] theorem State.redrawChrRam_nt0 (s : State) : (s.redrawChrRam).nt0 = s.nt0 := by
  unfold State.redrawChrRam; split <;> rfl
@[simp] theorem State.redrawChrRam_nt1 (s : State) : (s.redrawChrRam).nt1 = s.nt1 := by
  unfold State.redrawChrRam; split <;> rfl
@[simp] theorem State.redrawChrRam_openBus (s : State) : (s.redrawChrRam).openBus = s.openBus := by
  unfold State.redrawChrRam; split <;> rfl
@[simp] theorem State.redrawChrRam_readTable (s : State) : (s.redrawChrRam).readTable = s.readTable := by
  unfold State.redrawChrRam; split <;> rfl
@[simp] theorem State.redrawChrRam_writeTable (s : State) : (s.redrawChrRam).writeTable = s.writeTable := by
  unfold State.redrawChrRam; split <;> rfl
@[simp] theorem State.redrawChrRam_phase (s : State) : (s.redrawChrRam).phase = s.phase := by
  unfold State.redrawChrRam; split <;> rfl
@[simp] theorem State.redrawChrRam_cfgFault (s : State) : (s.redrawChrRam).cfgFault = s.cfgFault := by
  unfold State.redrawChrRam; split <;> rfl
@[simp] theorem State.redrawChrRam_refused (s : State) : (s.redrawChrRam).refused = s.refused := by
  unfold State.redrawChrRam; split <;> rfl
@[simp] theorem State.redrawChrRam_prgSlot (s : State) : (s.redrawChrRam).prgSlot = s.prgSlot := by
  unfold State.redrawChrRam; split <;> rfl
@[simp] theorem State.redrawChrRam_chrSlot (s : State) : (s.redrawChrRam).chrSlot = s.chrSlot := by
  unfold State.redrawChrRam; split <;> rfl
@[simp] theorem State.redrawChrRam_mirroring (s : State) : (s.redrawChrRam).mirroring = s.mirroring := by
  unfold State.redrawChrRam; split <;> rfl
@[simp] theorem State.redrawChrRam_chrRam (s : State) : (s.redrawChrRam).chrRam = if s.cfg.chrWritable then initialChrRam s.cfg s.draws else s.chrRam := by
  unfold State.redrawChrRam; split <;> rfl
@[simp] theorem State.redrawChrRam_trace (s : State) : (s.redrawChrRam).trace = s.trace := by
  unfold State.redrawChrRam; split <;> rfl
@[simp] theorem State.redrawChrRam_deviceLog (s : State) : (s.redrawChrRam).deviceLog = s.deviceLog := by
  unfold State.redrawChrRam; split <;> rfl
@[simp] theorem State.redrawChrRam_notifyLog (s : State) : (s.redrawChrRam).notifyLog = s.notifyLog := by
  unfold State.redrawChrRam; split <;> rfl
@[simp] theorem State.redrawChrRam_results (s : State) : (s.redrawChrRam).results = s.results := by
  unfold State.redrawChrRam; split <;> rfl
@[simp] theorem State.redrawChrRam_pending (s : State) : (s.redrawChrRam).pending = s.pending := by
  unfold State.redrawChrRam; split <;> rfl
@[simp] theorem State.redrawChrRam_streams (s : State) : (s.redrawChrRam).streams = s.streams := by
  unfold State.redrawChrRam; split <;> rfl
@[simp] theorem State.redrawChrRam_answers (s : State) : (s.redrawChrRam).answers = s.answers := by
  unfold State.redrawChrRam; split <;> rfl
@[simp] theorem State.redrawChrRam_draws (s : State) : (s.redrawChrRam).draws = if s.cfg.chrWritable then s.draws + 1 else s.draws := by
  unfold State.redrawChrRam; split <;> rfl

/-! ## hardResetDispatcher -/
@[simp] theorem State.hardResetDispatcher_cfg (s : State) : (s.hardResetDispatcher).cfg = s.cfg := by
  simp only [State.hardResetDispatcher]
@[simp] theorem State.hardResetDispatcher_ram (s : State) : (s.hardResetDispatcher).ram = initialRam s.cfg s.draws := by
  simp only [State.hardResetDispatcher]
@[simp] theorem State.hardResetDispatcher_nt0 (s : State) : (s.hardResetDispatcher).nt0 = Memory.drawn (s.draws + 1) nametableSize := by
  simp only [State.hardResetDispatcher]
@[simp] theorem State.hardResetDispatcher_nt1 (s : State) : (s.hardResetDispatcher).nt1 = Memory.drawn (s.draws + 2) nametableSize := by
  simp only [State.hardResetDispatcher]
@[simp] theorem State.hardResetDispatcher_openBus (s : State) : (s.hardResetDispatcher).openBus = Config.drawnByte (s.draws + 3) 0 := by
  simp only [State.hardResetDispatcher]
@[simp] theorem State.hardResetDispatcher_readTable (s : State) : (s.hardResetDispatcher).readTable = s.readTable := by
  simp only [State.hardResetDispatcher]
@[simp] theorem State.hardResetDispatcher_writeTable (s : State) : (s.hardResetDispatcher).writeTable = s.writeTable := by
  simp only [State.hardResetDispatcher]
@[simp] theorem State.hardResetDispatcher_phase (s : State) : (s.hardResetDispatcher).phase = s.phase := by
  simp only [State.hardResetDispatcher]
@[simp] theorem State.hardResetDispatcher_cfgFault (s : State) : (s.hardResetDispatcher).cfgFault = s.cfgFault := by
  simp only [State.hardResetDispatcher]
@[simp] theorem State.hardResetDispatcher_refused (s : State) : (s.hardResetDispatcher).refused = s.refused := by
  simp only [State.hardResetDispatcher]
@[simp] theorem State.hardResetDispatcher_prgSlot (s : State) : (s.hardResetDispatcher).prgSlot = s.prgSlot := by
  simp only [State.hardResetDispatcher]
@[simp] theorem State.hardResetDispatcher_chrSlot (s : State) : (s.hardResetDispatcher).chrSlot = s.chrSlot := by
  simp only [State.hardResetDispatcher]
@[simp] theorem State.hardResetDispatcher_mirroring (s : State) : (s.hardResetDispatcher).mirroring = s.mirroring := by
  simp only [State.hardResetDispatcher]
@[simp] theorem State.hardResetDispatcher_chrRam (s : State) : (s.hardResetDispatcher).chrRam = s.chrRam := by
  simp only [State.hardResetDispatcher]
@[simp] theorem State.hardResetDispatcher_trace (s : State) : (s.hardResetDispatcher).trace = s.trace := by
  simp only [State.hardResetDispatcher]
@[simp] theorem State.hardResetDispatcher_deviceLog (s : State) : (s.hardResetDispatcher).deviceLog = s.deviceLog := by
  simp only [State.hardResetDispatcher]
@[simp] theorem State.hardResetDispatcher_notifyLog (s : State) : (s.hardResetDispatcher).notifyLog = s.notifyLog := by
  simp only [State.hardResetDispatcher]
@[simp] theorem State.hardResetDispatcher_results (s : State) : (s.hardResetDispatcher).results = s.results := by
  simp only [State.hardResetDispatcher]
@[simp] theorem State.hardResetDispatcher_pending (s : State) : (s.hardResetDispatcher).pending = s.pending := by
  simp only [State.hardResetDispatcher]
@[simp] theorem State.hardResetDispatcher_streams (s : State) : (s.hardResetDispatcher).streams = s.streams := by
  simp only [State.hardResetDispatcher]
@[simp] theorem State.hardResetDispatcher_answers (s : State) : (s.hardResetDispatcher).answers = s.answers := by
  simp only [State.hardResetDispatcher]
@[simp] theorem State.hardResetDispatcher_draws (s : State) : (s.hardResetDispatcher).draws = s.draws + 4 := by
  simp only [State.hardResetDispatcher]

/-- The phase step leaves Setup and nothing else. -/
@[simp] theorem State.phaseStep_phase (s : State) :
    s.phaseStep.phase = if s.phase = .setup then .running else s.phase := by
  unfold State.phaseStep; split <;> simp_all

end Sys2Proof.Machine
end

