-- ==== Sys2Proof/Laws/Mapper.lean ====
section
/-! SUPPORT. What the mapper's operations and the bus routing can do, said once. -/

namespace Sys2Proof.Machine

/-! ## Selecting pages -/

/-- A slot the mapper has: its register takes the wrapped page, and nothing else changes. -/
theorem State.selectPrgPage_eq (s : State) {slot : Nat} (h : slot < 4) (page : Nat) :
    s.selectPrgPage slot page = { s with prgSlot := s.prgSlot.set slot (page % s.cfg.prgPageCount) h } := by
  simp [State.selectPrgPage, h]

/-- The four calls of a command: each slot takes its wrapped page, and nothing else changes. -/
theorem State.selectPrgPages_eq (s : State) (p0 p1 p2 p3 : Nat) :
    s.selectPrgPages p0 p1 p2 p3 =
      { s with prgSlot := #v[p0 % s.cfg.prgPageCount, p1 % s.cfg.prgPageCount, p2 % s.cfg.prgPageCount,
                             p3 % s.cfg.prgPageCount] } := by
  simp only [State.selectPrgPages, State.selectPrgPage_eq _ (show 0 < 4 by omega),
    State.selectPrgPage_eq _ (show 1 < 4 by omega), State.selectPrgPage_eq _ (show 2 < 4 by omega),
    State.selectPrgPage_eq _ (show 3 < 4 by omega), State.mk.injEq, true_and, and_true]
  ext i hi
  interval_cases i <;> simp

/-! ## The control register -/

/-- The slots a command gives: the mode's four pages, wrapped (R132-R134). -/
def commandSlots (c : Config) (a : Addr) (v : Byte) : Vector Nat 4 :=
  let n := c.prgPageCount
  let k := bank c.prgBankFieldMask v
  let b := k ||| subBank v
  match (m15Sel a).toNat with
  | 0 => #v[((k + 0) ^^^ subBank v) % n, ((k + 1) ^^^ subBank v) % n, ((k + 2) ^^^ subBank v) % n,
            ((k + 3) ^^^ subBank v) % n]
  | 2 => #v[b % n, b % n, b % n, b % n]
  | _ => #v[b % n, (b + 1) % n, (if a.getLsbD 1 then b else b + 1) % n, (b + 1) % n]

/-- Everything a command does (R135): the PRG slots and the mirroring register, and nothing else. -/
theorem State.writeRegister_eq (s : State) (a : Addr) (v : Byte) :
    s.writeRegister a v = { s with prgSlot := commandSlots s.cfg a v, mirroring := mirroringOf v } := by
  unfold State.writeRegister commandSlots
  generalize (m15Sel a).toNat = sel
  rcases sel with _ | _ | _ | sel <;>
    simp only [State.bankMode0, State.bankMode2, State.bankMode13, State.selectPrgPages_eq,
      State.setMirroringType]

theorem lt_prgPageCount (c : Config) (n : Nat) : n % c.prgPageCount < c.prgPageCount :=
  Nat.mod_lt _ (Nat.succ_pos _)

/-- After a command every slot holds a page of the image (R31). -/
theorem commandSlots_lt (c : Config) (a : Addr) (v : Byte) (k : Fin 4) :
    (commandSlots c a v)[k] < c.prgPageCount := by
  unfold commandSlots
  split <;> fin_cases k <;> simp [lt_prgPageCount]

/-- Initialize: CHR page 0, the first four pages (wrapped), Vertical (R130). -/
theorem State.mapperPowerOn_eq (s : State) :
    s.mapperPowerOn =
      { s with
        chrSlot := 0
        prgSlot := #v[0 % s.cfg.prgPageCount, 1 % s.cfg.prgPageCount, 2 % s.cfg.prgPageCount,
                      3 % s.cfg.prgPageCount]
        mirroring := .vertical } := by
  have hslots : ∀ c : Config, commandSlots c initRegAddr 0x00 =
      #v[0 % c.prgPageCount, 1 % c.prgPageCount, 2 % c.prgPageCount, 3 % c.prgPageCount] := by
    intro c
    have hsel : (m15Sel initRegAddr).toNat = 0 := by decide
    have hsub : subBank 0x00 = 0 := by decide
    have hbank : bank c.prgBankFieldMask 0x00 = 0 := by simp [bank]
    simp only [commandSlots, hsel, hsub, hbank, Nat.zero_add, Nat.xor_zero]
  simp only [State.mapperPowerOn, State.selectChrPage, if_pos, Nat.zero_mod, State.writeRegister_eq, hslots]
  rfl

/-! ## The CPU bus -/

/-- Everything a CPU route can change: the device log, the answers and the draws. -/
theorem State.cpuRoute_frame (s : State) (a : Addr) :
    (s.cpuRoute a).2 =
      { s with
        deviceLog := (s.cpuRoute a).2.deviceLog
        answers := (s.cpuRoute a).2.answers
        draws := (s.cpuRoute a).2.draws } := by
  unfold State.cpuRoute
  split
  · rfl
  · split
    · next h _ =>
      cases h with
      | mapper =>
        simp only [State.handlerRead, State.mapperCpuRead, State.drawByte]
        split <;> rfl
      | device d =>
        simp only [State.handlerRead, State.deviceAnswer]
        split <;> rfl
    · rfl

/-- Everything a CPU write's routing can do, the mapper's command apart. -/
theorem State.routeWrite_cases (s : State) (command : State → State) (a : Addr) (v : Byte) :
    (isRamAddr a = true ∧ s.routeWrite command a v = s.setRam (ramIndex a) v) ∨
    (isRamAddr a = false ∧ s.writeTable.lookup a = some .mapper ∧ s.routeWrite command a v = command s) ∨
    (∃ d, isRamAddr a = false ∧ s.writeTable.lookup a = some (.device d) ∧
      s.routeWrite command a v = s.deviceCalled { op := .write, device := d, addr := a, value := v }) ∨
    (isRamAddr a = false ∧ s.writeTable.lookup a = none ∧ s.routeWrite command a v = s) := by
  unfold State.routeWrite
  cases hram : isRamAddr a
  · cases hl : s.writeTable.lookup a with
    | none => simp
    | some h => cases h <;> simp
  · simp

/-- Everything a CPU write's routing can change. -/
theorem State.routeWrite_frame (s : State) (a : Addr) (v : Byte) :
    s.routeWrite (State.writeRegister a v) a v =
      { s with
        ram := (s.routeWrite (State.writeRegister a v) a v).ram
        deviceLog := (s.routeWrite (State.writeRegister a v) a v).deviceLog
        prgSlot := (s.routeWrite (State.writeRegister a v) a v).prgSlot
        mirroring := (s.routeWrite (State.writeRegister a v) a v).mirroring } := by
  rcases s.routeWrite_cases (State.writeRegister a v) a v with ⟨_, h⟩ | ⟨_, _, h⟩ | ⟨d, _, _, h⟩ | ⟨_, _, h⟩ <;> rw [h]
  · rfl
  · rw [State.writeRegister_eq]
  · rfl

/-! ## The VRAM bus -/

/-- Everything a VRAM write can do: one CHR byte, one nametable byte, or nothing where the mode has no map. -/
theorem State.mapperWriteVram_cases (s : State) (n : Addr) (v : Byte) :
    (isChrAddr n = true ∧ s.mapperWriteVram n v = some (s.setChr (s.chrIndex n) v)) ∨
    (∃ p, isChrAddr n = false ∧ s.nametableOf n = some p ∧
      s.mapperWriteVram n v = some (s.setNt p (nametableIndex n) v)) ∨
    (isChrAddr n = false ∧ s.nametableOf n = none ∧ s.mapperWriteVram n v = none) := by
  unfold State.mapperWriteVram
  cases hchr : isChrAddr n
  · cases hn : s.nametableOf n <;> simp
  · simp

/-- Under the two modes Mapper15 selects, every nametable address has a nametable. -/
theorem State.nametableOf_isSome {s : State} (h : s.mirroring = .vertical ∨ s.mirroring = .horizontal) (n : Addr) :
    ∃ p, s.nametableOf n = some p := by
  rcases h with h | h <;> simp [State.nametableOf, h, nametableMap]

end Sys2Proof.Machine
end

