-- ==== Sys2Proof/Laws/Memory.lean ====
section
/-! SUPPORT. The laws of the storage arrays: a read after a write, the canonical form, and arrays made of bytes. -/

namespace Sys2Proof.Machine

/-- Every listed index is at least `low`. -/
abbrev Memory.above (m : Memory) (low : Nat) : Prop := ∀ c ∈ m, low ≤ c.1

@[simp] theorem Memory.read_nil (i : Nat) : Memory.read [] i = Memory.unlisted := rfl

theorem Memory.wf_nil : Memory.wf [] := ⟨List.Pairwise.nil, by simp⟩

theorem Memory.wf_cons_iff (a : Nat) (b : Byte) (m : Memory) :
    Memory.wf ((a, b) :: m) ↔ Memory.above m (a + 1) ∧ b ≠ Memory.unlisted ∧ m.wf := by
  simp only [Memory.wf, List.pairwise_cons, List.forall_mem_cons, Memory.above, Nat.succ_le_iff]
  tauto

/-- An index below every listed one is unlisted. -/
theorem Memory.read_of_above {m : Memory} {low i : Nat} (h : m.above low) (hi : i < low) :
    m.read i = Memory.unlisted := by
  induction m with
  | nil => rfl
  | cons c m ih =>
    have hc : low ≤ c.1 := h c (by simp)
    simp only [Memory.read, if_neg (show c.1 ≠ i by omega)]
    exact ih fun d hd => h d (by simp [hd])

theorem Memory.read_cons_op (i j : Nat) (v : Byte) (m : Memory) (h : m.read i = Memory.unlisted) :
    (Memory.cons i v m).read j = if i = j then v else m.read j := by
  unfold Memory.cons
  split
  · next hv => split <;> simp_all
  · rfl

/-- A read after a write: the byte written at its index, the old byte everywhere else. -/
theorem Memory.read_write {m : Memory} (h : m.wf) (i j : Nat) (v : Byte) :
    (m.write i v).read j = if i = j then v else m.read j := by
  induction m with
  | nil => exact Memory.read_cons_op i j v [] rfl
  | cons c m ih =>
    obtain ⟨a, b⟩ := c
    obtain ⟨habove, -, hwf⟩ := (Memory.wf_cons_iff a b m).1 h
    have hlow : Memory.read m a = Memory.unlisted := Memory.read_of_above habove (Nat.lt_succ_self a)
    simp only [Memory.write]
    split
    · next hlt =>
      refine Memory.read_cons_op i j v _ ?_
      simp only [Memory.read, if_neg (show a ≠ i by omega)]
      exact Memory.read_of_above habove (by omega)
    · split
      · next heq =>
        subst heq
        rw [Memory.read_cons_op i j v m hlow]
        by_cases hij : i = j <;> simp [Memory.read, hij]
      · next hne =>
        simp only [Memory.read, ih hwf]
        by_cases haj : a = j
        · simp [haj, show i ≠ j by omega]
        · simp [haj]

theorem Memory.wf_cons_op {i : Nat} {v : Byte} {m : Memory} (hm : m.wf) (h : m.above (i + 1)) :
    (Memory.cons i v m).wf := by
  unfold Memory.cons
  split
  · exact hm
  · next hv => exact (Memory.wf_cons_iff i v m).2 ⟨h, hv, hm⟩

theorem Memory.above_cons_op {low i : Nat} {v : Byte} {m : Memory} (h : m.above low) (hi : low ≤ i) :
    (Memory.cons i v m).above low := by
  unfold Memory.cons
  split
  · exact h
  · exact List.forall_mem_cons.2 ⟨hi, h⟩

theorem Memory.above_write {m : Memory} {low i : Nat} (v : Byte) (h : m.above low) (hi : low ≤ i) :
    (m.write i v).above low := by
  induction m with
  | nil => exact Memory.above_cons_op (by simp) hi
  | cons c m ih =>
    obtain ⟨hc, hm⟩ := List.forall_mem_cons.1 h
    simp only [Memory.write]
    split
    · exact Memory.above_cons_op h hi
    · split
      · exact Memory.above_cons_op hm hi
      · exact List.forall_mem_cons.2 ⟨hc, ih hm⟩

/-- A write keeps the canonical form. -/
theorem Memory.wf_write {m : Memory} (h : m.wf) (i : Nat) (v : Byte) : (m.write i v).wf := by
  induction m with
  | nil => exact Memory.wf_cons_op Memory.wf_nil (by simp)
  | cons c m ih =>
    obtain ⟨a, b⟩ := c
    obtain ⟨habove, hb, hwf⟩ := (Memory.wf_cons_iff a b m).1 h
    simp only [Memory.write]
    split
    · next hlt =>
      refine Memory.wf_cons_op h (List.forall_mem_cons.2 ⟨hlt, fun d hd => ?_⟩)
      have := habove d hd
      omega
    · split
      · next heq => exact Memory.wf_cons_op hwf (heq ▸ habove)
      · next hlt hne =>
        exact (Memory.wf_cons_iff a b _).2 ⟨Memory.above_write v habove (by omega), hb, ih hwf⟩

theorem Memory.within_cons_op {i size : Nat} {v : Byte} {m : Memory} (hi : i < size) (h : m.within size) :
    (Memory.cons i v m).within size := by
  unfold Memory.cons
  split
  · exact h
  · exact List.forall_mem_cons.2 ⟨hi, h⟩

/-- A write inside the array stays inside the array. -/
theorem Memory.within_write {m : Memory} {size i : Nat} (v : Byte) (h : m.within size) (hi : i < size) :
    (m.write i v).within size := by
  induction m with
  | nil => exact Memory.within_cons_op hi (by simp)
  | cons c m ih =>
    obtain ⟨hc, hm⟩ := List.forall_mem_cons.1 h
    simp only [Memory.write]
    split
    · exact Memory.within_cons_op hi h
    · split
      · exact Memory.within_cons_op hi hm
      · exact List.forall_mem_cons.2 ⟨hc, ih hm⟩

/-! ## Arrays made of bytes -/

theorem Memory.above_ofBytesFrom (start : Nat) (vs : List Byte) : (Memory.ofBytesFrom start vs).above start := by
  induction vs generalizing start with
  | nil => simp [Memory.ofBytesFrom]
  | cons v vs ih =>
    exact Memory.above_cons_op (fun c hc => Nat.le_of_succ_le (ih (start + 1) c hc)) (Nat.le_refl start)

theorem Memory.wf_ofBytesFrom (start : Nat) (vs : List Byte) : (Memory.ofBytesFrom start vs).wf := by
  induction vs generalizing start with
  | nil => exact Memory.wf_nil
  | cons v vs ih => exact Memory.wf_cons_op (ih (start + 1)) (Memory.above_ofBytesFrom (start + 1) vs)

theorem Memory.within_ofBytesFrom (start : Nat) (vs : List Byte) :
    (Memory.ofBytesFrom start vs).within (start + vs.length) := by
  induction vs generalizing start with
  | nil => simp [Memory.ofBytesFrom]
  | cons v vs ih =>
    refine Memory.within_cons_op (by simp) ?_
    have := ih (start + 1)
    simpa [Nat.add_assoc, Nat.add_comm 1] using this

theorem Memory.read_ofBytesFrom (start i : Nat) (vs : List Byte) :
    (Memory.ofBytesFrom start vs).read (start + i) = vs.getD i Memory.unlisted := by
  induction vs generalizing start i with
  | nil => simp [Memory.ofBytesFrom]
  | cons v vs ih =>
    have hlow := Memory.read_of_above (Memory.above_ofBytesFrom (start + 1) vs) (Nat.lt_succ_self start)
    simp only [Memory.ofBytesFrom, Memory.read_cons_op start (start + i) v _ hlow]
    cases i with
    | zero => simp
    | succ i =>
      have := ih (start + 1) i
      simp only [show start + 1 + i = start + (i + 1) by omega] at this
      simp [this]

/-- Any array made of bytes is canonical. -/
theorem Memory.wf_ofBytes (vs : List Byte) : (Memory.ofBytes vs).wf := Memory.wf_ofBytesFrom 0 vs

theorem Memory.within_ofBytes (vs : List Byte) : (Memory.ofBytes vs).within vs.length := by
  simpa [Memory.ofBytes] using Memory.within_ofBytesFrom 0 vs

/-- An array made of bytes holds them, and the unlisted byte beyond them. -/
theorem Memory.read_ofBytes (vs : List Byte) (i : Nat) :
    (Memory.ofBytes vs).read i = vs.getD i Memory.unlisted := by
  simpa [Memory.ofBytes] using Memory.read_ofBytesFrom 0 i vs

@[simp] theorem Memory.length_bytes (m : Memory) (size : Nat) : (m.bytes size).length = size := by
  simp [Memory.bytes]

theorem Memory.wf_drawn (draw size : Nat) : (Memory.drawn draw size).wf := by
  rw [Memory.drawn]
  exact Memory.wf_ofBytes _

theorem Memory.within_drawn (draw size : Nat) : (Memory.drawn draw size).within size := by
  simpa [Memory.drawn] using Memory.within_ofBytes ((List.range size).map (Config.drawnByte draw))

/-- A drawn array holds the drawn byte at each of its indexes. -/
theorem Memory.read_drawn {draw size i : Nat} (h : i < size) :
    (Memory.drawn draw size).read i = Config.drawnByte draw i := by
  simp [Memory.drawn, Memory.read_ofBytes, h]

/-! ## Equal contents are equal data -/

theorem Memory.read_of_mem {m : Memory} (h : m.wf) {a : Nat} {b : Byte} (hm : (a, b) ∈ m) : m.read a = b := by
  induction m with
  | nil => simp at hm
  | cons c m ih =>
    obtain ⟨a', b'⟩ := c
    obtain ⟨habove, -, hwf⟩ := (Memory.wf_cons_iff a' b' m).1 h
    rcases List.mem_cons.1 hm with heq | hmem
    · obtain ⟨rfl, rfl⟩ := Prod.mk.inj heq
      simp [Memory.read]
    · have := habove _ hmem
      simp only [Memory.read, if_neg (show a' ≠ a by simp at this; omega)]
      exact ih hwf hmem

/-- Two canonical arrays that read alike are the same list. -/
theorem Memory.ext {m n : Memory} (hm : m.wf) (hn : n.wf) (h : ∀ i, m.read i = n.read i) : m = n := by
  induction m generalizing n with
  | nil =>
    cases n with
    | nil => rfl
    | cons d n =>
      obtain ⟨a, b⟩ := d
      have := h a
      simp only [Memory.read, if_pos] at this
      exact absurd this.symm ((Memory.wf_cons_iff a b n).1 hn).2.1
  | cons c m ih =>
    obtain ⟨a, b⟩ := c
    obtain ⟨hma, hb, hmwf⟩ := (Memory.wf_cons_iff a b m).1 hm
    cases n with
    | nil =>
      have := h a
      simp only [Memory.read, if_pos] at this
      exact absurd this hb
    | cons d n =>
      obtain ⟨a', b'⟩ := d
      obtain ⟨hna, hb', hnwf⟩ := (Memory.wf_cons_iff a' b' n).1 hn
      have haa : a = a' := by
        rcases Nat.lt_trichotomy a a' with hlt | heq | hgt
        · have := h a
          simp only [Memory.read, if_pos, if_neg (show a' ≠ a by omega),
            Memory.read_of_above hna (show a < a' + 1 by omega)] at this
          exact absurd this hb
        · exact heq
        · have := h a'
          simp only [Memory.read, if_pos, if_neg (show a ≠ a' by omega),
            Memory.read_of_above hma (show a' < a + 1 by omega)] at this
          exact absurd this.symm hb'
      subst haa
      have hbb : b = b' := by simpa [Memory.read] using h a
      subst hbb
      refine congrArg _ (ih hmwf hnwf fun i => ?_)
      by_cases hi : a = i
      · subst hi
        rw [Memory.read_of_above hma (Nat.lt_succ_self a), Memory.read_of_above hna (Nat.lt_succ_self a)]
      · simpa [Memory.read, hi] using h i

/-- An index outside the array is unlisted. -/
theorem Memory.read_of_within {m : Memory} {size i : Nat} (h : m.within size) (hi : size ≤ i) :
    m.read i = Memory.unlisted := by
  induction m with
  | nil => rfl
  | cons c m ih =>
    obtain ⟨hc, hm⟩ := List.forall_mem_cons.1 h
    simp only [Memory.read, if_neg (show c.1 ≠ i by omega)]
    exact ih hm

/-- Writing an array's own bytes down and reading them back gives the array. -/
theorem Memory.ofBytes_bytes {m : Memory} {size : Nat} (hm : m.wf) (hs : m.within size) :
    Memory.ofBytes (m.bytes size) = m := by
  refine Memory.ext (Memory.wf_ofBytes _) hm fun i => ?_
  rw [Memory.read_ofBytes]
  by_cases hi : i < size
  · simp [Memory.bytes, hi]
  · simp [Memory.bytes, hi, Memory.read_of_within hs (Nat.le_of_not_lt hi)]

end Sys2Proof.Machine
end

