-- ==== Sys2Proof/Laws/Ops.lean ====
section
/-! SUPPORT. What each shared operation of Machine/Ops.lean can do, said once. -/

namespace Sys2Proof.Machine

/-- Outside Failed the phase step leaves the block Running and changes nothing else. -/
theorem State.phaseStep_eq {s : State} (h : s.phase ≠ .failed) : s.phaseStep = { s with phase := .running } := by
  unfold State.phaseStep
  split
  · rfl
  · next hp => rw [← hp]
  · next hp => exact absurd hp h

/-- Outside Failed a transaction takes its effect, from the state with the phase Running. -/
theorem State.transact_eq {s : State} (h : s.phase ≠ .failed) (effect : State → State) :
    s.transact effect = .next (effect { s with phase := .running }) := by
  simp [State.transact, h, State.phaseStep_eq h]

/-- In Failed a transaction has no step. -/
theorem State.transact_failed {s : State} (h : s.phase = .failed) (effect : State → State) :
    s.transact effect = .fault .noStepInFailedPhase := by
  simp [State.transact, h]

/-- Everything a transaction can do when it answers a next state. -/
theorem State.transact_next {s t : State} {effect : State → State} (h : s.transact effect = .next t) :
    s.phase ≠ .failed ∧ t = effect { s with phase := .running } := by
  by_cases hp : s.phase = .failed
  · simp [State.transact_failed hp] at h
  · rw [State.transact_eq hp] at h
    exact ⟨hp, (Host.Outcome.next.inj h).symm⟩

/-- Taking a device's answer uses up an answer or a draw and changes nothing else. -/
theorem State.deviceAnswer_frame (s : State) :
    s.deviceAnswer.2 = { s with answers := s.deviceAnswer.2.answers, draws := s.deviceAnswer.2.draws } := by
  unfold State.deviceAnswer
  split <;> rfl

/-- With an answer fixed in advance the device gives it. -/
theorem State.deviceAnswer_fixed {s : State} {v : Byte} {rest : List Byte} (h : s.answers = v :: rest) :
    s.deviceAnswer = (v, { s with answers := rest }) := by
  simp [State.deviceAnswer, h]

/-- With no answer fixed in advance the device's answer is a free value. -/
theorem State.deviceAnswer_free {s : State} (h : s.answers = []) :
    s.deviceAnswer = (Config.deviceAnswer s.draws, { s with draws := s.draws + 1 }) := by
  simp [State.deviceAnswer, h]

/-- Everything a refusal does (R264): the first reason is kept, and the refusal is returned. -/
theorem State.refuse_eq (s : State) (r : RefuseReason) :
    s.refuse r =
      { s with
        refused := if s.refused = none then some r else s.refused
        results := s.results ++ [.refused r] } := by
  cases h : s.refused <;> simp [State.refuse, State.recordRefusal, State.answer, h]

/-- Everything a fetch can do. -/
theorem State.fetch_some {s t : State} {w : TxnWord} (h : s.fetch = some (w, t)) :
    ∃ rest, s.pending = w :: rest ∧ t = { s with pending := rest } := by
  unfold State.fetch at h
  split at h
  · exact absurd h (by simp)
  · next w' rest hp =>
    simp only [Option.some.injEq, Prod.mk.injEq] at h
    obtain ⟨rfl, rfl⟩ := h
    exact ⟨rest, hp, rfl⟩

theorem State.fetch_none {s : State} (h : s.fetch = none) : s.pending = [] := by
  unfold State.fetch at h
  split at h
  · assumption
  · exact absurd h (by simp)

/-- Everything a step can do when it answers a next state: idle, or run one word. -/
theorem step_next {s t : State} (h : step s = .next t) :
    (s.pending = [] ∧ s.phase ≠ .failed ∧ t = s) ∨
      ∃ w rest, s.pending = w :: rest ∧ exec (decode w) { s with pending := rest } = .next t := by
  unfold step at h
  split at h
  · next hf =>
    refine .inl ⟨State.fetch_none hf, ?_⟩
    unfold State.idle at h
    split at h
    · exact absurd h (by simp)
    · next hp => exact ⟨hp, (Host.Outcome.next.inj h).symm⟩
  · next w u hf =>
    obtain ⟨rest, hp, rfl⟩ := State.fetch_some hf
    exact .inr ⟨w, rest, hp, h⟩

/-- Outside Failed every instruction answers a next state. -/
theorem exec_total (i : Instr) {s : State} (h : s.phase ≠ .failed) : ∃ t, exec i s = .next t := by
  cases i <;>
    simp only [exec, execRead, execWrite, execDbgRead, execDbgWrite, execReadVram, execWriteVram, execDbgReadVram,
      execGetOpenBus, execToAbsChr, execCpuClock, execReset, execRegister, execSnapshot, execRestore, execReservedE,
      execReservedF, execM15Mode0, execM15Mode1, execM15Mode2, execM15Mode3, State.transact_eq h,
      State.refuseReserved, h, if_false]
  case register index =>
    split
    · next hp => exact absurd hp h
    · exact ⟨_, rfl⟩
    · exact ⟨_, rfl⟩
  all_goals exact ⟨_, rfl⟩

end Sys2Proof.Machine
end

