-- ==== Sys2Proof/Laws/PerInstr.lean ====
section
/-! SUPPORT. Statements made for every instruction. TableRow: the word the encoder gives an instruction carries the fixed
bits of its row of spec/opcode_table.json. -/

namespace Sys2Proof.Laws.TableRow

/-- The encoded word agrees with the row's `match` on the row's `mask`. -/
def Statement (i : Instr) : Prop := encode i &&& i.tableMask = i.tableMatch

/-- The four bits a transaction row fixes are its operation code. -/
theorem txnWord_op (op kind : BitVec 4) (addr : Addr) (data : Byte) :
    txnWord op kind addr data &&& 0xF0000000 = op ++ (0 : BitVec 28) := by
  ext i hi
  simp only [txnWord, BitVec.getElem_and, BitVec.getElem_append]
  interval_cases i <;> simp

/-- The seven bits a Mapper15 row fixes: the operation code, address bit 15 and the banking mode. -/
theorem txnWord_m15 (op kind : BitVec 4) (mid : BitVec 13) (sel : BitVec 2) (data : Byte) :
    txnWord op kind (m15Addr mid sel) data &&& 0xF0800300 =
      op ++ (0 : BitVec 4) ++ 1#1 ++ (0 : BitVec 13) ++ sel ++ (0 : BitVec 8) := by
  ext i hi
  simp only [txnWord, m15Addr, BitVec.getElem_and, BitVec.getElem_append]
  interval_cases i <;> simp

theorem read (addr : Addr) (kind : AccessKind) : Statement (.read addr kind) := txnWord_op ..

theorem write (addr : Addr) (data : Byte) : Statement (.write addr data) := txnWord_op ..

theorem dbgRead (addr : Addr) : Statement (.dbgRead addr) := txnWord_op ..

theorem dbgWrite (addr : Addr) (data : Byte) : Statement (.dbgWrite addr data) := txnWord_op ..

theorem readVram (addr : Addr) (kind : AccessKind) : Statement (.readVram addr kind) := txnWord_op ..

theorem writeVram (addr : Addr) (data : Byte) : Statement (.writeVram addr data) := txnWord_op ..

theorem dbgReadVram (addr : Addr) : Statement (.dbgReadVram addr) := txnWord_op ..

theorem getOpenBus (mask : Byte) : Statement (.getOpenBus mask) := txnWord_op ..

theorem toAbsChr (addr : Addr) : Statement (.toAbsChr addr) := txnWord_op ..

theorem cpuClock : Statement .cpuClock := txnWord_op ..

theorem reset (isSoft : Bool) : Statement (.reset isSoft) := txnWord_op ..

theorem register (index : BitVec 8) : Statement (.register index) := txnWord_op ..

theorem snapshot : Statement .snapshot := txnWord_op ..

theorem restore : Statement .restore := txnWord_op ..

theorem reservedE : Statement .reservedE := txnWord_op ..

theorem reservedF : Statement .reservedF := txnWord_op ..

theorem m15Mode0 (mid : BitVec 13) (value : Byte) : Statement (.m15Mode0 mid value) := txnWord_m15 ..

theorem m15Mode1 (mid : BitVec 13) (value : Byte) : Statement (.m15Mode1 mid value) := txnWord_m15 ..

theorem m15Mode2 (mid : BitVec 13) (value : Byte) : Statement (.m15Mode2 mid value) := txnWord_m15 ..

theorem m15Mode3 (mid : BitVec 13) (value : Byte) : Statement (.m15Mode3 mid value) := txnWord_m15 ..

end Sys2Proof.Laws.TableRow
end

