-- ==== Sys2Proof/Laws/SaveState.lean ====
section
/-! SUPPORT. The arrays of a snapshot stream (spec/45_snapshot.md R240-R243), and what taking a stream does. -/

namespace Sys2Proof.Machine

/-- Taking a stream touches the host's queue of streams alone. -/
theorem State.takeStream_frame (s : State) :
    s.takeStream.2 = { s with streams := s.takeStream.2.streams } := by
  unfold State.takeStream
  split <;> rfl

theorem Stream.lookup_lengths (st : Stream) (name : ArrayName) :
    List.lookup name (st.map fun f => (f.1, f.2.length)) = (List.lookup name st).map List.length := by
  induction st with
  | nil => rfl
  | cons f st ih =>
    obtain ⟨n, vs⟩ := f
    simp only [List.map_cons, List.lookup_cons, ih]
    split <;> rfl

/-- An array of a well-formed stream has the length its shape gives it. -/
theorem Stream.array_length {c : Config} {st : Stream} (h : Stream.wellFormed c st) {name : ArrayName} {size : Nat}
    (hsize : List.lookup name (streamShape c) = some size) : (Stream.array st name).length = size := by
  have hl := Stream.lookup_lengths st name
  rw [h.1, hsize] at hl
  cases hs : List.lookup name st with
  | none => simp [hs] at hl
  | some vs => simpa [Stream.array, hs, eq_comm] using hl

/-- The arrays of the stream a state gives. -/
theorem State.snapshotStream_array (s : State) :
    Stream.array s.snapshotStream .internalRam = s.ram.bytes ramSize ∧
    Stream.array s.snapshotStream .nametable0 = s.nt0.bytes nametableSize ∧
    Stream.array s.snapshotStream .nametable1 = s.nt1.bytes nametableSize ∧
    Stream.array s.snapshotStream .m15PrgSlot = s.prgSlot.toList.flatMap le16 ∧
    Stream.array s.snapshotStream .m15ChrSlot = le16 s.chrSlot ∧
    Stream.array s.snapshotStream .m15Mirroring = [mirroringByte s.mirroring] ∧
    (s.cfg.chrWritable = true → Stream.array s.snapshotStream .m15ChrRam = s.chrRam.bytes s.cfg.chrSize) := by
  unfold State.snapshotStream State.mapperSnapshot
  generalize s.ram.bytes ramSize = ram
  generalize s.nt0.bytes nametableSize = nt0
  generalize s.nt1.bytes nametableSize = nt1
  generalize s.chrRam.bytes s.cfg.chrSize = chrRam
  refine ⟨rfl, rfl, rfl, rfl, rfl, rfl, fun h => ?_⟩
  simp only [h]
  rfl

/-- The four slots as the bytes of the stream. -/
theorem flatMap_le16 (slots : Vector Nat 4) :
    slots.toList.flatMap le16 = le16 slots[0] ++ le16 slots[1] ++ le16 slots[2] ++ le16 slots[3] := by
  have h : slots = #v[slots[0], slots[1], slots[2], slots[3]] := by ext i hi; interval_cases i <;> rfl
  rw [h]
  rfl

end Sys2Proof.Machine
end

