-- ==== Sys2Proof/Tests/Slice0.lean ====
section
/-! SUPPORT. The model's own tests: the smoke test of WellFormed, decoding, one-step vectors of
spec/95_test_vectors.md (each theorem names its vector), and a witness for the hypotheses of every statement. -/

namespace Sys2Proof.Tests

open Sys2Proof.Machine

/-! ## WellFormed and decoding -/

/-- WellFormed has one check: a WRITE to an address with bit 15 set is some Mapper15 row's. -/
theorem test_wellFormed_write : (Instr.write 0x7FFF 0x00).WellFormed ∧ ¬ (Instr.write 0x8000 0x00).WellFormed := by
  decide

/-- Bits 31:28 op, 27:24 kind, 23:8 addr, 7:0 data (R80); `RD 0x1801`, kind 15 with junk data. -/
theorem test_decode_read : decode 0b0000_1111_0001100000000001_11111111 = .read 0x1801 15 := by decide

/-- R81, op 0x1 with address bit 15 clear; kind is ignored. -/
theorem test_decode_write : decode 0b0001_1010_0101000000000000_10011001 = .write 0x5000 0x99 := by decide

/-- R81, op 0x2. -/
theorem test_decode_dbgRead : decode 0b0010_0000_1000000000000001_00000000 = .dbgRead 0x8001 := by decide

/-- R81, op 0x3; with address bit 15 set it is still DBG_WRITE. -/
theorem test_decode_dbgWrite : decode 0b0011_0000_1000000000000001_00000100 = .dbgWrite 0x8001 0x04 := by decide

/-- R81, op 0x4. -/
theorem test_decode_readVram : decode 0b0100_0010_0011110000000101_00000000 = .readVram 0x3C05 2 := by decide

/-- R81, op 0x5. -/
theorem test_decode_writeVram : decode 0b0101_0000_0010010000000101_10110001 = .writeVram 0x2405 0xB1 := by decide

/-- R81, op 0x6. -/
theorem test_decode_dbgReadVram : decode 0b0110_0000_0011111111111111_00000000 = .dbgReadVram 0x3FFF := by decide

/-- R81, op 0x7: the mask is the data field. -/
theorem test_decode_getOpenBus : decode 0b0111_0000_0000000000000000_11100000 = .getOpenBus 0xE0 := by decide

/-- R81, op 0x8. -/
theorem test_decode_toAbsChr : decode 0b1000_0000_0101001000110100_00000000 = .toAbsChr 0x5234 := by decide

/-- R81, op 0x9: nothing but the operation code is used. -/
theorem test_decode_cpuClock : decode 0b1001_1111_1111111111111111_11111111 = .cpuClock := by decide

/-- R81, R82, op 0xA: bit 24, and no other, is isSoft. -/
theorem test_decode_reset :
    decode 0b1010_0001_0000000000000000_00000000 = .reset true ∧
    decode 0b1010_1110_0000000000000000_00000001 = .reset false := by decide

/-- R81, op 0xB: the index is the data field. -/
theorem test_decode_register : decode 0b1011_0000_0000000000000000_11111111 = .register 255 := by decide

/-- R81, ops 0xC and 0xD. -/
theorem test_decode_saveState :
    decode 0b1100_0000_0000000000000000_00000000 = .snapshot ∧
    decode 0b1101_0000_0000000000000000_00000000 = .restore := by decide

/-- R88, ops 0xE and 0xF. -/
theorem test_decode_reserved :
    decode 0b1110_0000_0000000000000000_00000000 = .reservedE ∧
    decode 0b1111_0000_0000000000000000_00000000 = .reservedF := by decide

/-- R83 and spec/opcode_table.json: address bit 15 set, bits 1:0 the mode, bits 14:2 kept; vectors M11 and CPU17. -/
theorem test_decode_mapper15 :
    decode 0b0001_0000_1111111111111100_00000001 = .m15Mode0 0x1FFF 0x01 ∧
    decode 0b0001_0000_1001001000110101_00010011 = .m15Mode1 0x048D 0x13 ∧
    decode 0b0001_0000_1000000000000010_01000110 = .m15Mode2 0 0x46 ∧
    decode 0b0001_0000_1111111111111111_00000000 = .m15Mode3 0x1FFF 0x00 := by decide

/-! ## States to test on -/

/-- The common configuration of spec/95_test_vectors.md, with three PRG bytes listed: page 5, page 3 and page 4 hold their
own number at the offsets the tests read. Devices: 0 the mapper (R147), 1 and 2 those of PROG-D, 3 an overriding one, 4
one that conflicts in both directions (G4). -/
def sampleConfig : Config where
  prgLastPage := 15
  prgImage := [(0x6000, 3), (0x9FFF, 4), (0xA123, 5)]
  chrLastPage := 0
  chrWritable := true
  chrImage := []
  ramInit := .allZero
  prgBankFieldMask := 0x7F
  patches := []
  devices :=
    [.mapper,
     .external 1 [⟨0x2000, 0x2007⟩] [⟨0x2000, 0x2007⟩] false,
     .external 2 [] [⟨0x2006, 0x2006⟩] false,
     .external 3 [] [⟨0x2006, 0x2006⟩] true,
     .external 4 [⟨0x1FFF, 0x2000⟩] [⟨0x2006, 0x2006⟩] false]

/-- The mapper's entry of both tables (R147). -/
def mapperEntry : TableEntry := { range := ⟨0x8000, 0xFFFF⟩, id := .mapper }

/-- Device 1's entry of both tables. -/
def ppuEntry : TableEntry := { range := ⟨0x2000, 0x2007⟩, id := .device 1 }

/-- The start state of L2.2: Running, the mapper registered, the latch at 0x5A, the memories zero. -/
def sample : State :=
  { State.powerOn sampleConfig with
    ram := [], nt0 := [], nt1 := [], chrRam := [], openBus := 0x5A, phase := .running
    readTable := [mapperEntry], writeTable := [mapperEntry] }

/-- The same in Setup. -/
def sampleSetup : State := { sample with phase := .setup }

/-- The same with device 1 registered as well. -/
def sampleDevice : State :=
  { sample with readTable := [ppuEntry, mapperEntry], writeTable := [ppuEntry, mapperEntry] }

/-- Device 1 registered, in Setup. -/
def sampleDeviceSetup : State := { sampleDevice with phase := .setup }

/-- The same in Failed. -/
def sampleFailed : State := { sample with phase := .failed, cfgFault := some { direction := .write, addr := 0x2006 } }

/-- CHR is ROM and holds 0x3C at 0x0010 (vector V6). -/
def sampleRom : State :=
  { sample with cfg := { sampleConfig with chrWritable := false, chrImage := [(0x0010, 0x3C)] } }

/-- A large image: 512 pages (vectors M17, M18). -/
def sampleLarge : State := { sample with cfg := { sampleConfig with prgLastPage := 511 } }

/-- The state an instruction leads to, or the same state if it leads to none. -/
def after (i : Instr) (s : State) : State :=
  match exec i s with
  | .next t => t
  | .fault _ | .refused _ => s

/-- Outside Failed `after` is the next state. -/
theorem exec_after (i : Instr) {s : State} (h : s.phase ≠ .failed) : exec i s = .next (after i s) := by
  obtain ⟨t, ht⟩ := exec_total i h
  simp [after, ht]

/-- The last result of a state. -/
def lastResult (s : State) : Option TxnResult := s.results.getLast?

/-! ## Vectors: the CPU bus -/

/-- CPU1. -/
theorem test_read_ram :
    let t := after (.read 0x1801 0) { sample with ram := [(1, 0x5A)] }
    lastResult t = some (.byte 0x5A) ∧ t.openBus = 0x5A ∧
      t.trace = [{ op := .read, space := .cpu, addr := 0x1801, value := 0x5A, kind := some 0 }] := by decide

/-- CPU16: the PRG byte of slot 2. -/
theorem test_read_prg :
    let t := after (.read 0xC123 0) { sample with prgSlot := #v[3, 2, 5, 4] }
    lastResult t = some (.byte 5) ∧ t.openBus = 5 := by decide

/-- CPU3. -/
theorem test_write_ram :
    let t := after (.write 0x1FFF 0x33) sample
    t.ram = [(0x7FF, 0x33)] ∧ t.trace = [{ op := .write, space := .cpu, addr := 0x1FFF, value := 0x33, kind := none }] := by
  decide

/-- PROG-D′: the write goes to the device, traced and logged. -/
theorem test_write_device :
    let t := after (.write 0x2007 0x01) sampleDevice
    t.deviceLog = [{ op := .write, device := 1, addr := 0x2007, value := 0x01 }] ∧ t.trace.length = 1 := by decide

/-- CPU6 and CPU15: the patched byte, no trace, the latch kept. -/
theorem test_dbgRead_patched :
    let c : Config := { sampleConfig with patches := [{ addr := 0x0001, value := 0x5A, result := 0xAA }] }
    let t := after (.dbgRead 0x0001) { sample with cfg := c, ram := [(1, 0x5A)] }
    lastResult t = some (.byte 0xAA) ∧ t.openBus = 0x5A ∧ t.trace = [] ∧ t.ram = [(1, 0x5A)] := by decide

/-- CPU8. -/
theorem test_dbgWrite_ram :
    let t := after (.dbgWrite 0x0002 0x77) sample
    t.ram = [(2, 0x77)] ∧ t.trace = [] := by decide

/-- CPU9 and CPU4: the latch under a mask; an unmapped read. -/
theorem test_getOpenBus :
    lastResult (after (.getOpenBus 0xE0) sample) = some (.byte 0x40) ∧
    lastResult (after (.read 0x2000 0) { sample with openBus := 0x77 }) = some (.byte 0x77) := by decide

/-! ## Vectors: Mapper15 -/

/-- M6: mode 0 with every bit of the command set, wrapped in 16 pages. -/
theorem test_m15Mode0_wraps :
    let t := after (.m15Mode0 0 0xFF) sample
    t.prgSlot = #v[15, 14, 1, 0] ∧ t.mirroring = .horizontal := by decide

/-- S2: the exclusive or of the sub-bank; Vertical (spec/90_conflicts.md C1). -/
theorem test_m15Mode0_xor :
    let t := after (.m15Mode0 0 0x81) sample
    t.prgSlot = #v[3, 2, 5, 4] ∧ t.mirroring = .vertical := by decide

/-- M2 and M18. -/
theorem test_m15Mode1 :
    (after (.m15Mode1 0 0x81) sample).prgSlot = #v[3, 4, 4, 4] ∧
    (after (.m15Mode1 0 0xFF) sampleLarge).prgSlot = #v[255, 256, 256, 256] := by decide

/-- M5 and M4. -/
theorem test_m15Mode2 :
    (after (.m15Mode2 0 0x46) sample).prgSlot = #v[12, 12, 12, 12] ∧
    (after (.m15Mode2 0 0x80) sample).prgSlot = #v[1, 1, 1, 1] := by decide

/-- M8 and CPU17. -/
theorem test_m15Mode3 :
    (after (.m15Mode3 0 0xFF) sample).prgSlot = #v[15, 0, 15, 0] ∧
    (after (.m15Mode3 0x1FFF 0x00) sample).prgSlot = #v[0, 1, 0, 1] := by decide

/-- R103: SelectPrgPage(2, 9) of four pages stores 1; a slot the mapper lacks is refused. -/
theorem test_selectPrgPage :
    let s := { sample with cfg := { sampleConfig with prgLastPage := 3 } }
    (s.selectPrgPage 2 9).prgSlot = #v[0, 1, 1, 3] ∧ (s.selectPrgPage 4 0).refused = some .badSlot := by decide

/-! ## Vectors: the VRAM bus -/

/-- V1: the address folds, the mapper hears the folded one, the latch is not touched. -/
theorem test_readVram_fold :
    let t := after (.readVram 0x3400 0) { sample with mirroring := .horizontal, nt0 := [(0, 0x11)] }
    lastResult t = some (.byte 0x11) ∧ t.notifyLog = [0x2400] ∧ t.openBus = 0x5A ∧
      t.trace = [{ op := .read, space := .vram, addr := 0x2400, value := 0x11, kind := some 0 }] := by decide

/-- V6: a CHR-ROM keeps its byte. -/
theorem test_readVram_rom :
    lastResult (after (.readVram 0x0010 0) (after (.writeVram 0x0010 0x5C) sampleRom)) = some (.byte 0x3C) := by decide

/-- V2 and V3. -/
theorem test_writeVram_nametable :
    (after (.writeVram 0x2C10 0x22) sample).nt1 = [(0x010, 0x22)] ∧
    (after (.writeVram 0x2401 0x11) { sample with mirroring := .horizontal }).nt0 = [(1, 0x11)] := by decide

/-- V5. -/
theorem test_writeVram_chr : (after (.writeVram 0x0010 0x5C) sample).chrRam = [(0x0010, 0x5C)] := by decide

/-- V7: no notification and no trace. -/
theorem test_dbgReadVram :
    let t := after (.dbgReadVram 0x3FFF) { sample with nt1 := [(0x3FF, 0xEE)] }
    lastResult t = some (.byte 0xEE) ∧ t.notifyLog = [] ∧ t.trace = [] := by decide

/-- V8 and V9. -/
theorem test_toAbsChr :
    lastResult (after (.toAbsChr 0x5234) sample) = some (.offset (some 0x1234)) ∧
    lastResult (after (.toAbsChr 0x2000) sample) = some (.offset none) := by decide

/-! ## Vectors: lifecycle -/

/-- CPU18 and G7's phase step. -/
theorem test_cpuClock :
    let t := after .cpuClock sampleSetup
    t.phase = .running ∧ t.prgSlot = sample.prgSlot ∧ t.trace = [] := by decide

/-- T1. -/
theorem test_reset_soft :
    let t := after (.reset true)
      { sample with prgSlot := #v[12, 12, 12, 12], mirroring := .horizontal, ram := [(0, 0x42)], chrRam := [(0, 0x7E)] }
    t.prgSlot = #v[0, 1, 2, 3] ∧ t.mirroring = .vertical ∧ t.ram = [(0, 0x42)] ∧ t.openBus = 0x5A ∧
      t.chrRam = [(0, 0x7E)] := by decide

/-- T2 and T3: RAM is zero under the all-zero policy, the tables are kept. -/
theorem test_reset_hard :
    let t := after (.reset false) { sampleDevice with prgSlot := #v[12, 12, 12, 12], ram := [(0, 0x42)] }
    t.prgSlot = #v[0, 1, 2, 3] ∧ t.ram = [] ∧ t.readTable = sampleDevice.readTable := by decide

/-- PROG-D and PROG-D′: the third registration conflicts; with override the later handler wins, at its address alone. -/
theorem test_register_conflict :
    let t := after (.register 2) sampleDeviceSetup
    let u := after (.register 3) sampleDeviceSetup
    t.phase = .failed ∧ t.cfgFault = some { direction := .write, addr := 0x2006 } ∧
      t.writeTable.lookup 0x2006 = some (.device 1) ∧ lastResult u = some .ok ∧ u.phase = .setup ∧
      u.writeTable.lookup 0x2006 = some (.device 3) ∧ u.writeTable.lookup 0x2007 = some (.device 1) := by decide

/-- R147, PROG-A line 1: the mapper is registered at 0x8000-0xFFFF and nowhere below. G5: a late registration is refused. -/
theorem test_register_mapper :
    let t := after (.register 0) (State.powerOn sampleConfig)
    let u := after (.register 1) sample
    lastResult t = some .ok ∧ t.readTable.lookup 0x8000 = some .mapper ∧ t.writeTable.lookup 0xFFFF = some .mapper ∧
      t.readTable.lookup 0x7FFF = none ∧ t.writeTable.lookup 0x7FFF = none ∧ u.refused = some .notInSetup ∧
      u.readTable = sample.readTable := by decide

/-- G9. -/
theorem test_reserved :
    (after .reservedE sample).refused = some .reservedOp ∧ (after .reservedF sample).refused = some .reservedOp := by
  decide

/-! ## Vectors: snapshot and restore -/

/-- N1 and N2: the order of the arrays, and the mapper's three. -/
theorem test_snapshot :
    let st := State.snapshotStream { sample with prgSlot := #v[3, 2, 5, 4] }
    st.map (·.1) = [.internalRam, .nametable0, .nametable1, .m15PrgSlot, .m15ChrSlot, .m15Mirroring, .m15ChrRam] ∧
      Stream.array st .m15PrgSlot = [0x03, 0x00, 0x02, 0x00, 0x05, 0x00, 0x04, 0x00] ∧
      Stream.array st .m15ChrSlot = [0x00, 0x00] ∧ Stream.array st .m15Mirroring = [0x00] := by decide

/-- R243: a stream without its arrays is refused. -/
theorem test_restore_malformed :
    let t := after .restore { sample with streams := [[(.m15Mirroring, [0x02])]] }
    t.refused = some .badSnapshot ∧ t.mirroring = .vertical ∧ t.streams = [] := by decide

/-! ## A step fetches and runs the next word -/

/-- `WR 0x0001, 0x5A` (0x1000015A) placed as the next word of the machine after reset is the one that runs. -/
theorem test_step_runs_word :
    step (State.reset.withFetchWord 32 0x1000015A) = .next (after (.write 0x0001 0x5A) State.reset) := rfl

/-- The table's numbering: the row M15_MODE1 from its `match`. -/
theorem test_decodeTableWord : decodeTableWord 32 0x10800100 = some (.m15Mode1 0 0) := by decide

/-! ## Witnesses: for each statement with hypotheses, values that meet all of them (the statement's name follows
`witness_`), at the ends of each clause's range -/

theorem witness_DecodeEncodeAgree : (Instr.write 0x7FFF 0xFF).WellFormed ∧ (Instr.m15Mode3 0x1FFF 0xFF).WellFormed := by
  decide

/-- Two different words that agree on the bits WRITE uses. -/
theorem witness_UnusedFieldsAreIgnored :
    (0x1F00015A : TxnWord) ≠ 0x1000015A ∧
    (0x1F00015A : TxnWord) &&& (decode 0x1000015A).usedBits = 0x1000015A &&& (decode 0x1000015A).usedBits := by decide

/-- A word waiting; none waiting. -/
theorem witness_StepRunsDecodedInstruction :
    (sample.withFetchWord 32 0x1000015A).pending = 0x1000015A :: [] ∧ sample.pending = [] ∧ sample.phase ≠ .failed := by
  decide

/-- ReadOfRam. -/
theorem witness_ReadOfRam : sample.phase ≠ .failed ∧ (0x1FFF : Addr).toNat ≤ 0x1FFF := by decide

/-- RamMirrorsReadAlike. -/
theorem witness_RamMirrorsReadAlike : sample.phase ≠ .failed ∧ sample.cfg.patches = [] ∧ 0x07FF < 0x0800 := by decide

/-- WriteOfRam. -/
theorem witness_WriteOfRam : sample.phase ≠ .failed ∧ (0x1FFF : Addr).toNat ≤ 0x1FFF ∧ sample.ram.wf := by decide

/-- RamWriteIsReadThroughEveryMirror. -/
theorem witness_RamWriteIsReadThroughEveryMirror :
    sample.phase ≠ .failed ∧ sample.ram.wf ∧ (0x07FF : Addr).toNat ≤ 0x1FFF ∧ (0x1FFF : Addr).toNat ≤ 0x1FFF ∧
    (0x07FF : Addr).toNat % 0x0800 = (0x1FFF : Addr).toNat % 0x0800 := by decide

/-- The first byte of slot 0 and the last of slot 3. -/
theorem witness_ReadOfPrg :
    sample.phase ≠ .failed ∧ sample.readTable.lookup 0x8000 = some .mapper ∧ 0 < 0x2000 ∧
    (0x8000 : Addr).toNat = 0x8000 + (0 : Fin 4).val * 0x2000 + 0 ∧ sample.readTable.lookup 0xFFFF = some .mapper ∧
    0x1FFF < 0x2000 ∧ (0xFFFF : Addr).toNat = 0x8000 + (3 : Fin 4).val * 0x2000 + 0x1FFF := by decide

/-- ReadOfUnmapped and WriteOfUnmapped, at both ends of the unmapped range of `sample`. -/
theorem witness_ReadOfUnmapped :
    sample.phase ≠ .failed ∧ 0x1FFF < (0x2000 : Addr).toNat ∧ sample.readTable.lookup 0x2000 = none ∧
    0x1FFF < (0x7FFF : Addr).toNat ∧ sample.readTable.lookup 0x7FFF = none := by decide

theorem witness_WriteOfUnmapped :
    sample.phase ≠ .failed ∧ 0x1FFF < (0x2000 : Addr).toNat ∧ sample.writeTable.lookup 0x2000 = none ∧
    0x1FFF < (0x7FFF : Addr).toNat ∧ sample.writeTable.lookup 0x7FFF = none := by decide

/-- ReadOfDevice: at the device's first address; and an answer fixed in advance. -/
theorem witness_ReadOfDevice :
    sampleDevice.phase ≠ .failed ∧ 0x1FFF < (0x2000 : Addr).toNat ∧
    sampleDevice.readTable.lookup 0x2000 = some (.device 1) ∧
    State.answers { sampleDevice with answers := [0x41] } = 0x41 :: [] := by decide

theorem witness_WriteOfDevice :
    sampleDevice.phase ≠ .failed ∧ 0x1FFF < (0x2007 : Addr).toNat ∧
    sampleDevice.writeTable.lookup 0x2007 = some (.device 1) := by decide

/-- One address of each mode. -/
theorem witness_WriteOfMapperIsACommand :
    sample.phase ≠ .failed ∧ ∀ k : Fin 4, 0x1FFF < (0xFFFC + BitVec.ofNat 16 k : Addr).toNat ∧
      sample.writeTable.lookup (0xFFFC + BitVec.ofNat 16 k) = some .mapper ∧
      (0xFFFC + BitVec.ofNat 16 k : Addr).toNat % 4 = k.val := by decide

/-- The statements whose one hypothesis is a phase other than Failed. -/
theorem witness_DbgReadReturnsWhatReadReturns : sample.phase ≠ .failed := by decide
theorem witness_GetOpenBusMasksTheLatch : sample.phase ≠ .failed := by decide
theorem witness_DbgWriteIsWriteWithoutTrace : sample.phase ≠ .failed := by decide
theorem witness_ToAbsChrGivesTheOffset : sample.phase ≠ .failed := by decide
theorem witness_CpuClockChangesNothing : sampleSetup.phase ≠ .failed := by decide
theorem witness_SoftResetKeepsMemory : sample.phase ≠ .failed := by decide
theorem witness_ReservedCodesAreRefused : sample.phase ≠ .failed := by decide

/-- The all-zero policy; a CHR-ROM. -/
theorem witness_HardResetRedrawsMemory :
    sampleRom.phase ≠ .failed ∧ sampleRom.cfg.ramInit = .allZero ∧ sampleRom.cfg.chrWritable = false := by decide

/-- A read of RAM, three instructions that leave the latch alone, and an unmapped address (vector P3). -/
theorem witness_OpenBusKeepsTheLastRead :
    let s := { sample with ram := [(1, 0x33)] }
    let between := [Instr.write 0x5000 0x99, .getOpenBus 0xFF, .reset true]
    let t := after (.read 0x0001 0) s
    let u := after (.reset true) (after (.getOpenBus 0xFF) (after (.write 0x5000 0x99) t))
    exec (.read 0x0001 0) s = .next t ∧ t.results = s.results ++ [.byte 0x33] ∧ (∀ i ∈ between, keepsLatch i) ∧
    execAll between t = .next u ∧ u.ReadUnmapped 0x5000 :=
  ⟨rfl, by decide, by simp [keepsLatch], rfl, by decide⟩

theorem witness_Mode0SetsXorIndexedSlots :
    sample.phase ≠ .failed ∧ sample.writeTable.lookup (m15Addr 0 0) = some .mapper ∧
    sample.writeTable.lookup (m15Addr 0x1FFF 0) = some .mapper := by decide

theorem witness_Mode1RepeatsTheNextPage :
    sample.phase ≠ .failed ∧ sample.writeTable.lookup (m15Addr 0 1) = some .mapper ∧
    sample.writeTable.lookup (m15Addr 0x1FFF 1) = some .mapper := by decide

theorem witness_Mode2MirrorsOnePage :
    sample.phase ≠ .failed ∧ sample.writeTable.lookup (m15Addr 0 2) = some .mapper ∧
    sample.writeTable.lookup (m15Addr 0x1FFF 2) = some .mapper := by decide

theorem witness_Mode3RepeatsThePair :
    sample.phase ≠ .failed ∧ sample.writeTable.lookup (m15Addr 0 3) = some .mapper ∧
    sample.writeTable.lookup (m15Addr 0x1FFF 3) = some .mapper := by decide

/-- Modes 0 to 3 in an image of 512 pages, with the command of vectors M17 and M18. -/
theorem witness_CommandsAskForAtMostPage257 :
    sampleLarge.cfg.prgBankFieldMask = 0x7F ∧ 257 < sampleLarge.cfg.prgPageCount ∧
    ∀ k : Fin 4, 0x1FFF < (0x8000 + BitVec.ofNat 16 k : Addr).toNat ∧
      sampleLarge.writeTable.lookup (0x8000 + BitVec.ofNat 16 k) = some .mapper ∧
      exec (.write (0x8000 + BitVec.ofNat 16 k) 0xFF) sampleLarge =
        .next (after (.write (0x8000 + BitVec.ofNat 16 k) 0xFF) sampleLarge) :=
  ⟨by decide, by decide, fun k => ⟨by revert k; decide, by revert k; decide, exec_after _ (by decide)⟩⟩

theorem witness_Bit6OnlyTurnsMirroringInSmallImages :
    sample.cfg.prgBankFieldMask = 0x7F ∧ sample.cfg.prgPageCount ∣ 128 ∧ 0x1FFF < (0x8000 : Addr).toNat ∧
    sample.writeTable.lookup 0x8000 = some .mapper ∧
    exec (.write 0x8000 0x06) sample = .next (after (.write 0x8000 0x06) sample) ∧
    exec (.write 0x8000 (0x06 ^^^ 0x40)) sample = .next (after (.write 0x8000 (0x06 ^^^ 0x40)) sample) :=
  ⟨by decide, by decide, by decide, by decide, exec_after _ (by decide), exec_after _ (by decide)⟩

theorem witness_NextReadSeesTheCommand :
    sample.phase ≠ .failed ∧ sample.writeTable.lookup (m15Addr 0x1FFF 2) = some .mapper ∧
    sample.readTable.lookup 0x8000 = some .mapper ∧ 0x8000 ≤ (0x8000 : Addr).toNat ∧
    sample.readTable.lookup 0xFFFF = some .mapper ∧ 0x8000 ≤ (0xFFFF : Addr).toNat := by decide

theorem witness_VramAddressesFold :
    0x3000 ≤ (0x3000 : Addr).toNat ∧ (0x3000 : Addr).toNat ≤ 0x3FFF ∧ 0x3000 ≤ (0x3FFF : Addr).toNat ∧
    (0x3FFF : Addr).toNat ≤ 0x3FFF := by decide

/-- The last CHR address, and the same one above 0x3FFF. -/
theorem witness_ReadVramOfChr :
    sample.phase ≠ .failed ∧ (0x1FFF : Addr).toNat % 0x4000 ≤ 0x1FFF ∧ (0x5FFF : Addr).toNat % 0x4000 ≤ 0x1FFF := by
  decide

/-- CHR-RAM and CHR-ROM. -/
theorem witness_WriteVramOfChr :
    sample.phase ≠ .failed ∧ (0x1FFF : Addr).toNat % 0x4000 ≤ 0x1FFF ∧ sample.chrRam.wf ∧
    sample.cfg.chrWritable = true ∧ sampleRom.phase ≠ .failed ∧ sampleRom.chrRam.wf ∧
    sampleRom.cfg.chrWritable = false := by decide

/-- The last byte of quadrant 3, straight and folded, and each mode's nametable for it. -/
theorem witness_ReadVramOfNametable :
    let s := { sample with nt0 := [(0, 0x11)], nt1 := [(0, 0x22)] }
    s.phase ≠ .failed ∧ 3 < 4 ∧ 0x03FF < 0x0400 ∧
    (0x2FFF : Addr).toNat % 0x4000 = 0x2000 + 3 * 0x0400 + 0x03FF ∧
    (0xFFFF : Addr).toNat % 0x4000 = 0x3000 + 3 * 0x0400 + 0x03FF ∧
    (s.mirroring = .vertical ∧ s.nt1 = (if 3 % 2 = 0 then s.nt0 else s.nt1)) ∧
    (State.mirroring { s with mirroring := .horizontal } = .horizontal ∧ s.nt1 = (if 3 < 2 then s.nt0 else s.nt1)) ∧
    State.mirroring { s with mirroring := .singleScreen0 } = .singleScreen0 ∧
    State.mirroring { s with mirroring := .singleScreen1 } = .singleScreen1 := by decide

/-- The last byte of quadrant 2, straight and folded, and each mode's nametable for it. -/
theorem witness_WriteVramOfNametable :
    sample.phase ≠ .failed ∧ 2 < 4 ∧ 0x03FF < 0x0400 ∧ sample.nt0.wf ∧ sample.nt1.wf ∧
    (0x2BFF : Addr).toNat % 0x4000 = 0x2000 + 2 * 0x0400 + 0x03FF ∧
    (0x3BFF : Addr).toNat % 0x4000 = 0x3000 + 2 * 0x0400 + 0x03FF ∧ (sample.mirroring = .vertical ∧ 0 = 2 % 2) ∧
    (State.mirroring { sample with mirroring := .horizontal } = .horizontal ∧ 1 = 2 / 2) ∧
    State.mirroring { sample with mirroring := .singleScreen0 } = .singleScreen0 ∧
    State.mirroring { sample with mirroring := .singleScreen1 } = .singleScreen1 := by decide

theorem witness_DbgReadVramReturnsWhatReadVramReturns : sample.phase ≠ .failed ∧ sample.mirroring ≠ .fourScreen := by
  decide

theorem witness_FourScreenAccessIsRefused :
    let s := { sample with mirroring := .fourScreen }
    s.phase ≠ .failed ∧ s.mirroring = .fourScreen ∧ 0x1FFF < (0x2000 : Addr).toNat % 0x4000 ∧
      0x1FFF < (0xFFFF : Addr).toNat % 0x4000 := by decide

/-- One transaction of each bus. -/
theorem witness_BusesAreSeparate :
    exec (.readVram 0x2000 0) sample = .next (after (.readVram 0x2000 0) sample) ∧
    exec (.read 0x0000 0) sample = .next (after (.read 0x0000 0) sample) :=
  ⟨exec_after _ (by decide), exec_after _ (by decide)⟩

/-- A descriptor that meets no entry; one that overrides; the mapper's. -/
theorem witness_RegisterInstallsTheDevice :
    sampleSetup.phase = .setup ∧
    ((∀ a, setCovers (sampleSetup.descriptorAt 1).readAddresses a = true → sampleSetup.readTable.lookup a = none) ∧
      ∀ a, setCovers (sampleSetup.descriptorAt 1).writeAddresses a = true → sampleSetup.writeTable.lookup a = none) ∧
    sampleDeviceSetup.phase = .setup ∧ (sampleDeviceSetup.descriptorAt 3).allowOverride = true ∧
    (let s := State.powerOn sampleConfig
     s.phase = .setup ∧ (s.descriptorAt 0).id = .mapper ∧ (∀ a, s.readTable.lookup a = none) ∧
       ∀ a, s.writeTable.lookup a = none) := by
  have disjoint : ∀ a : Addr, setCovers [⟨0x2000, 0x2007⟩] a = true → HandlerTable.lookup [mapperEntry] a = none := by
    intro a h
    simp only [setCovers, List.any_cons, List.any_nil, Bool.or_false, rangeCovers, Bool.and_eq_true,
      decide_eq_true_eq] at h
    have hno : ¬ rangeCovers mapperEntry.range a = true := by
      simp only [rangeCovers_iff, mapperEntry]
      bv_omega
    simp [HandlerTable.lookup, hno]
  exact ⟨rfl, ⟨disjoint, disjoint⟩, rfl, rfl, rfl, rfl, fun _ => rfl, fun _ => rfl⟩

/-- Descriptor 4 of a block with device 1: the first read conflict is at 0x2000, after an address without one. -/
theorem witness_ReadConflictRaisesConfigurationError :
    let d := sampleDeviceSetup.descriptorAt 4
    sampleDeviceSetup.phase = .setup ∧ d.allowOverride = false ∧ setCovers d.readAddresses 0x2000 = true ∧
    (sampleDeviceSetup.readTable.lookup 0x2000).isSome = true ∧
    ∀ b, setCovers d.readAddresses b = true → (sampleDeviceSetup.readTable.lookup b).isSome = true → 0x2000 ≤ b := by
  refine ⟨rfl, rfl, by decide, by decide, fun b _ hp => ?_⟩
  by_contra hlt
  have hppu : ¬ rangeCovers ppuEntry.range b = true := by
    simp only [rangeCovers_iff, ppuEntry]
    bv_omega
  have hmap : ¬ rangeCovers mapperEntry.range b = true := by
    simp only [rangeCovers_iff, mapperEntry]
    bv_omega
  simp [sampleDeviceSetup, sampleDevice, HandlerTable.lookup, hppu, hmap] at hp

/-- Descriptor 2 of a block with device 1 (PROG-D): no read address, and a write conflict at 0x2006. -/
theorem witness_WriteConflictRaisesConfigurationError :
    let d := sampleDeviceSetup.descriptorAt 2
    sampleDeviceSetup.phase = .setup ∧ d.allowOverride = false ∧
    (∀ b, setCovers d.readAddresses b = true → sampleDeviceSetup.readTable.lookup b = none) ∧
    setCovers d.writeAddresses 0x2006 = true ∧ (sampleDeviceSetup.writeTable.lookup 0x2006).isSome = true ∧
    ∀ b, setCovers d.writeAddresses b = true → (sampleDeviceSetup.writeTable.lookup b).isSome = true → 0x2006 ≤ b := by
  refine ⟨rfl, rfl, ?_, by decide, by decide, ?_⟩
  · intro b h
    exact absurd h (by simp [sampleDeviceSetup, sampleDevice, sample, State.powerOn, sampleConfig, State.descriptorAt,
      descriptorOf, setCovers])
  · intro b h _
    have hset : (sampleDeviceSetup.descriptorAt 2).writeAddresses = [⟨0x2006, 0x2006⟩] := rfl
    simp only [hset, setCovers, List.any_cons, List.any_nil, Bool.or_false, rangeCovers, Bool.and_eq_true,
      decide_eq_true_eq] at h
    exact h.1

theorem witness_LateRegisterIsRefused : sample.phase = .running := by decide

theorem witness_FailedHasNoStep : sampleFailed.phase = .failed := by decide

/-- A step out of Setup, and a REGISTER that leads to Failed. -/
theorem witness_PhasesChangeAsTheLifecycleSays :
    exec .cpuClock sampleSetup = .next (after .cpuClock sampleSetup) ∧ (after .cpuClock sampleSetup).phase = .running ∧
    exec (.register 2) sampleDeviceSetup = .next (after (.register 2) sampleDeviceSetup) ∧
    (after (.register 2) sampleDeviceSetup).phase = .failed ∧
    exec (.register 3) sampleDeviceSetup = .next (after (.register 3) sampleDeviceSetup) ∧
    (after (.register 3) sampleDeviceSetup).phase = .setup :=
  ⟨exec_after _ (by decide), by decide, exec_after _ (by decide), by decide, exec_after _ (by decide), by decide⟩

/-- In tables of the mapper's entry, and device 1's before it, the mapper answers in its range alone. -/
theorem sample_tables {a : Addr}
    (h : HandlerTable.lookup [mapperEntry] a = some .mapper ∨ HandlerTable.lookup [ppuEntry, mapperEntry] a = some .mapper) :
    isMapperAddr a = true := by
  have hmap : HandlerTable.lookup [mapperEntry] a = some .mapper → isMapperAddr a = true := by
    intro h
    rw [isMapperAddr_iff]
    simp only [HandlerTable.lookup, rangeCovers_iff, mapperEntry] at h
    split at h
    · bv_omega
    · exact absurd h (by simp)
  rcases h with h | h
  · exact hmap h
  · rw [HandlerTable.lookup] at h
    split at h
    · exact absurd h (by simp [ppuEntry])
    · exact hmap h

/-- `sample` meets the invariant. -/
theorem sample_inv : sample.Inv := by
  refine ⟨⟨?_, ?_, ?_, ?_, fun _ => rfl⟩, ⟨?_, rfl, .inl rfl⟩,
    ⟨fun _ h => sample_tables (.inl h), fun _ h => sample_tables (.inl h)⟩, ⟨?_, ?_, ?_⟩⟩ <;>
    simp [sample, State.powerOn, sampleConfig, Config.prgPageCount, Memory.wf, Memory.within, Fin.forall_fin_succ]

/-- `sampleDeviceSetup` meets the invariant. -/
theorem sampleDeviceSetup_inv : sampleDeviceSetup.Inv := by
  refine ⟨⟨?_, ?_, ?_, ?_, fun _ => rfl⟩, ⟨?_, rfl, .inl rfl⟩,
    ⟨fun _ h => sample_tables (.inr h), fun _ h => sample_tables (.inr h)⟩, ⟨?_, ?_, ?_⟩⟩ <;>
    simp [sampleDeviceSetup, sampleDevice, sample, State.powerOn, sampleConfig, Config.prgPageCount, Memory.wf,
      Memory.within, Fin.forall_fin_succ]

/-- A late REGISTER (0xB0000001) as the next word of `sample`. -/
theorem witness_RunningKeepsTheTables :
    (sample.withFetchWord 32 0xB0000001).phase = .running ∧
    step (sample.withFetchWord 32 0xB0000001) = .next (after (.register 1) sample) := ⟨rfl, rfl⟩

/-- A state with a refusal recorded, and a registration (0xB0000002) that raises ConfigurationError. -/
theorem witness_RecordsAreSetOnce :
    State.Inv { sample with refused := some .notInSetup, pending := [0xE0000000] } ∧
    step { sample with refused := some .notInSetup, pending := [0xE0000000] } =
      .next (after .reservedE { sample with refused := some .notInSetup }) ∧
    State.Inv (sampleDeviceSetup.withFetchWord 32 0xB0000002) ∧
    step (sampleDeviceSetup.withFetchWord 32 0xB0000002) = .next (after (.register 2) sampleDeviceSetup) ∧
    (after (.register 2) sampleDeviceSetup).cfgFault ≠ sampleDeviceSetup.cfgFault := by
  obtain ⟨⟨a1, a2, a3, a4, a5⟩, ⟨b1, b2, b3⟩, ⟨m1, m2⟩, ⟨c1, c2, c3⟩⟩ := sample_inv
  obtain ⟨⟨d1, d2, d3, d4, d5⟩, ⟨e1, e2, e3⟩, ⟨n1, n2⟩, ⟨f1, f2, f3⟩⟩ := sampleDeviceSetup_inv
  exact ⟨⟨⟨a1, a2, a3, a4, a5⟩, ⟨b1, b2, b3⟩, ⟨m1, m2⟩, ⟨c1, by simp, by simp⟩⟩, rfl,
    ⟨⟨d1, d2, d3, d4, d5⟩, ⟨e1, e2, e3⟩, ⟨n1, n2⟩, ⟨f1, f2, f3⟩⟩, rfl, by decide⟩

theorem witness_StepsKeepParametersAndGrowLogs :
    step (sample.withFetchWord 32 0x00180100) = .next (after (.read 0x1801 0) sample) := rfl

/-- Two states with different logs: outside Failed, and in it. -/
theorem witness_LogsAreNeverRead :
    sample.withoutLogs = State.withoutLogs { sample with results := [.done], notifyLog := [0x2400] } ∧
    sampleFailed.withoutLogs = State.withoutLogs { sampleFailed with results := [.done] } := ⟨rfl, rfl⟩

theorem witness_SnapshotReturnsTheStream : sample.phase ≠ .failed ∧ sample.Inv := ⟨by decide, sample_inv⟩

/-- The stream of `sample` is well formed for its configuration. -/
theorem sample_stream : Stream.wellFormed sample.cfg sample.snapshotStream := by
  have hslots : ∀ k ∈ [0, 1, 2, 3], Stream.prgSlot sample.snapshotStream k < sample.cfg.prgPageCount := by decide
  have hchr : Stream.chrSlot sample.snapshotStream = 0 := by decide
  have hmode : Stream.mirroring sample.snapshotStream = 0x00 ∨ Stream.mirroring sample.snapshotStream = 0x01 := by
    decide
  refine ⟨?_, hslots, hchr, hmode⟩
  have hw : sample.cfg.chrWritable = true := rfl
  simp only [State.snapshotStream, State.mapperSnapshot, streamShape, hw, flatMap_le16]
  simp [le16]

/-- The stream of `sampleRom` too, without a CHR array. -/
theorem sampleRom_stream : Stream.wellFormed sampleRom.cfg sampleRom.snapshotStream := by
  have hslots : ∀ k ∈ [0, 1, 2, 3], Stream.prgSlot sampleRom.snapshotStream k < sampleRom.cfg.prgPageCount := by decide
  have hchr : Stream.chrSlot sampleRom.snapshotStream = 0 := by decide
  have hmode : Stream.mirroring sampleRom.snapshotStream = 0x00 ∨ Stream.mirroring sampleRom.snapshotStream = 0x01 := by
    decide
  refine ⟨?_, hslots, hchr, hmode⟩
  have hw : sampleRom.cfg.chrWritable = false := rfl
  simp only [State.snapshotStream, State.mapperSnapshot, streamShape, hw, flatMap_le16]
  simp [le16]

/-- CHR-RAM and CHR-ROM. -/
theorem witness_RestoreLoadsTheStream :
    let s := { sample with streams := [sample.snapshotStream] }
    s.phase ≠ .failed ∧ s.streams = sample.snapshotStream :: [] ∧ Stream.wellFormed s.cfg sample.snapshotStream ∧
      s.cfg.chrWritable = true ∧
    let r := { sampleRom with streams := [sampleRom.snapshotStream] }
    r.phase ≠ .failed ∧ r.streams = sampleRom.snapshotStream :: [] ∧ Stream.wellFormed r.cfg sampleRom.snapshotStream ∧
      r.cfg.chrWritable = false :=
  ⟨by decide, rfl, sample_stream, rfl, by decide, rfl, sampleRom_stream, rfl⟩

/-- A stream without arrays; no stream. -/
theorem witness_MalformedStreamIsRefused :
    sample.phase ≠ .failed ∧ ¬ Stream.wellFormed sample.cfg [(.m15Mirroring, [0x02])] ∧ sample.streams = [] := by
  decide

/-- The stream of a state with other memory contents and slots, restored into `sample`. -/
theorem witness_RestoreReproducesTheSnapshot :
    let s := { sample with ram := [(0, 0x42)], mirroring := .horizontal }
    let u := { sample with streams := [s.snapshotStream] }
    s.Inv ∧ u.Inv ∧ u.cfg = s.cfg ∧ u.phase ≠ .failed ∧ u.streams = s.snapshotStream :: [] := by
  obtain ⟨⟨a1, a2, a3, a4, a5⟩, ⟨b1, b2, b3⟩, ⟨m1, m2⟩, ⟨c1, c2, c3⟩⟩ := sample_inv
  exact ⟨⟨⟨by decide, a2, a3, a4, a5⟩, ⟨b1, b2, .inr rfl⟩, ⟨m1, m2⟩, ⟨c1, c2, c3⟩⟩,
    ⟨⟨a1, a2, a3, a4, a5⟩, ⟨b1, b2, b3⟩, ⟨m1, m2⟩, ⟨c1, c2, c3⟩⟩, rfl, by decide, rfl⟩

/-- Two latches (vector N8): an instruction that shows the latch and one that does not. -/
theorem witness_RoundTripHoldsUpToTheLatch :
    sample.phase ≠ .failed ∧ sample.withoutLatch = State.withoutLatch { sample with openBus := 0x22 } ∧
    sample.showsLatch (.read 0x5000 0) ∧ ¬ sample.showsLatch (.read 0x0000 0) ∧ ¬ sample.showsLatch .snapshot := by
  refine ⟨by decide, rfl, ?_, ?_, ?_⟩ <;> simp only [State.showsLatch] <;> decide

theorem witness_MappedReadSettlesTheLatch :
    sample.phase ≠ .failed ∧ sample.withoutLatch = State.withoutLatch { sample with openBus := 0x22 } ∧
    ¬ sample.ReadUnmapped 0x1FFF ∧ ¬ sample.ReadUnmapped 0x8000 := by
  refine ⟨by decide, rfl, ?_, ?_⟩ <;> decide

/-- The all-zero policy. -/
theorem witness_PowerOnState : sampleConfig.ramInit = .allZero := rfl

theorem witness_EveryStepKeepsTheInvariant :
    State.Inv (sampleDeviceSetup.withFetchWord 32 0xB0000002) ∧
    step (sampleDeviceSetup.withFetchWord 32 0xB0000002) = .next (after (.register 2) sampleDeviceSetup) :=
  ⟨witness_RecordsAreSetOnce.2.2.1, rfl⟩

end Sys2Proof.Tests
end

section
/-! Mapper15's commands (spec/41_mapper15.md R130-R135): the slots of each mode in plain arithmetic, the WRITE that the
mapper handles, and Initialize. -/

namespace Sys2Proof.Machine

/-! ## The slots of each mode -/

/-- Mode 0 (R132): slot `k` takes the XOR-indexed page. -/
theorem commandSlots_mode0 (c : Config) {a : Addr} (v : Byte) (h : a.toNat % 4 = 0) (k : Fin 4) :
    (commandSlots c a v)[k] =
      (((v &&& c.prgBankFieldMask).toNat * 2 + k.val) ^^^ (v.toNat / 128)) % c.prgPageCount := by
  simp only [commandSlots, m15Sel_toNat, h, bank_eq, subBank_eq]
  fin_cases k <;> rfl

/-- Mode 1/3 (R133): the page and its successor; address bit 1 decides slot 2. -/
theorem commandSlots_mode13 (c : Config) {a : Addr} (v : Byte) (h : a.toNat % 4 = 1 ∨ a.toNat % 4 = 3) :
    let b := (v &&& c.prgBankFieldMask).toNat * 2 ||| v.toNat / 128
    commandSlots c a v = #v[b % c.prgPageCount, (b + 1) % c.prgPageCount,
      (if a.toNat % 4 = 3 then b else b + 1) % c.prgPageCount, (b + 1) % c.prgPageCount] := by
  have hbit : a.getLsbD 1 = decide (a.toNat % 4 = 3) := by
    rw [addr_bit1, decide_eq_decide]
    omega
  simp only [commandSlots, m15Sel_toNat, hbit, bank_eq, subBank_eq, decide_eq_true_eq]
  rcases h with h | h <;> simp [h]

/-- Mode 2 (R134): the same page in every slot. -/
theorem commandSlots_mode2 (c : Config) {a : Addr} (v : Byte) (h : a.toNat % 4 = 2) (k : Fin 4) :
    (commandSlots c a v)[k] =
      ((v &&& c.prgBankFieldMask).toNat * 2 ||| v.toNat / 128) % c.prgPageCount := by
  simp only [commandSlots, m15Sel_toNat, h, bank_eq, subBank_eq]
  fin_cases k <;> rfl

/-! ## The WRITE that the mapper handles -/

/-- Outside RAM, where the write handler is the mapper, the routing runs the command and nothing else (R138). -/
theorem State.routeWrite_of_mapper {s : State} {a : Addr} (ha : 0x1FFF < a.toNat)
    (hm : s.writeTable.lookup a = some .mapper) (command : State → State) (v : Byte) :
    s.routeWrite command a v = command s := by
  simp [State.routeWrite, (isRamAddr_false_iff a).2 ha, hm]

/-- The traced write of R162 there: the trace event, then the command. -/
theorem State.tracedWrite_of_mapper {s : State} {a : Addr} (ha : 0x1FFF < a.toNat)
    (hm : s.writeTable.lookup a = some .mapper) (command : State → State) (v : Byte) :
    s.tracedWrite command a v =
      command (s.traced { op := .write, space := .cpu, addr := a, value := v, kind := none }) :=
  State.routeWrite_of_mapper (s := s.traced _) ha hm command v

/-- Everything such a WRITE does (R135, R162): the phase, the trace event, the command's two registers, the result. -/
theorem exec_write_of_mapper {s : State} {a : Addr} (v : Byte) (hp : s.phase ≠ .failed) (ha : 0x1FFF < a.toNat)
    (hm : s.writeTable.lookup a = some .mapper) :
    exec (.write a v) s = .next { s with
      phase := .running
      trace := s.trace ++ [{ op := .write, space := .cpu, addr := a, value := v, kind := none }]
      mirroring := mirroringOf v
      prgSlot := commandSlots s.cfg a v
      results := s.results ++ [.done] } := by
  simp only [exec, execWrite, State.transact_eq hp,
    State.tracedWrite_of_mapper (s := { s with phase := .running }) ha hm, State.writeRegister_eq]
  rfl

/-- Settles O17: the WRITE is `exec_write_of_mapper`, and each mode's slots are the mode's own lemma. -/
theorem writeOfMapperIsACommand : Obligations.WriteOfMapperIsACommand := by
  intro s a v hp ha hm
  refine ⟨commandSlots s.cfg a v, exec_write_of_mapper v hp ha hm,
    commandSlots_mode0 s.cfg v, fun h => ?mode1, commandSlots_mode2 s.cfg v, fun h => ?mode3⟩
  case mode1 => simp [commandSlots_mode13 s.cfg v (.inl h), h]
  case mode3 => simp [commandSlots_mode13 s.cfg v (.inr h), h]

/-! ## Initialize -/

/-- Settles O58: `mapperPowerOn_eq` overwrites all three registers with what power-on gives them. -/
theorem initializeGivesThePowerOnBanking : Obligations.InitializeGivesThePowerOnBanking := by
  intro c slots chrSlot mode s
  have hinit := s.mapperPowerOn_eq
  exact ⟨rfl, hinit, hinit.trans rfl⟩

end Sys2Proof.Machine
end

section
/-! REGISTER without a conflict (spec/44_registry.md R221, R222), and the addresses of the mapper's descriptor
(spec/41_mapper15.md R147). -/

namespace Sys2Proof.Machine

/-- Everything a registration without a conflict does (R221): each direction's whole set is installed, the result is ok. -/
theorem State.registerDevice_of_noConflict {s : State} {d : Descriptor}
    (hread : conflictOf s.readTable d.readAddresses d.allowOverride = none)
    (hwrite : conflictOf s.writeTable d.writeAddresses d.allowOverride = none) :
    s.registerDevice d = { s with
      readTable := s.readTable.install d.readAddresses d.id
      writeTable := s.writeTable.install d.writeAddresses d.id
      results := s.results ++ [.ok] } := by
  simp only [State.registerDevice, State.registerWrites, hread, hwrite, State.answer]

/-- In Setup REGISTER is the registration of the descriptor at its index (R221, R224). -/
theorem exec_register_of_setup {s : State} (index : BitVec 8) (hp : s.phase = .setup) :
    exec (.register index) s = .next (s.registerDevice (s.descriptorAt index)) := by
  simp only [exec, execRegister, hp]

/-- The one range of R147's descriptor is the window from 0x8000 up. -/
theorem setCovers_mapperRange_iff (a : Addr) : setCovers [mapperRange] a = true ↔ 0x8000 ≤ a.toNat := by
  rw [setCovers_mapperRange, isMapperAddr_iff]

/-- Settles O40: neither direction has a conflict (`conflictOf_none`), each table answers as `lookup_install` says, and
the mapper's descriptor is always R147's (`descriptorAt_mapper`). -/
theorem registerInstallsTheDevice : Obligations.RegisterInstallsTheDevice := by
  intro s index hp d hfree
  have hread : conflictOf s.readTable d.readAddresses d.allowOverride = none :=
    conflictOf_none (hfree.imp_right And.left)
  have hwrite : conflictOf s.writeTable d.writeAddresses d.allowOverride = none :=
    conflictOf_none (hfree.imp_right And.right)
  have hexec := (exec_register_of_setup index hp).trans
    (congrArg Host.Outcome.next (State.registerDevice_of_noConflict hread hwrite))
  refine ⟨_, _, hexec, s.readTable.lookup_install d.readAddresses d.id,
    s.writeTable.lookup_install d.writeAddresses d.id, fun hid => ?_⟩
  have hmapper : d = mapperDescriptor := State.descriptorAt_mapper hid
  rw [hmapper]
  exact ⟨rfl, fun a => ⟨setCovers_mapperRange_iff a, setCovers_mapperRange_iff a⟩⟩

end Sys2Proof.Machine
end

section
/-! The transaction words (spec/30_encoding.md R80-R83): a word spells an instruction exactly when it carries the
instruction's own word in the bits the instruction uses. The encoding statements are three readings of that. -/

namespace Sys2Proof

/-! ## Words as four fields -/

/-- Words are masked field by field. -/
theorem txnWord_and (op op' kind kind' : BitVec 4) (addr addr' : Addr) (data data' : Byte) :
    txnWord op kind addr data &&& txnWord op' kind' addr' data' =
      txnWord (op &&& op') (kind &&& kind') (addr &&& addr') (data &&& data') := by
  unfold txnWord
  rw [← BitVec.and_append, ← BitVec.and_append, ← BitVec.and_append]

theorem txnWord_inj {op op' kind kind' : BitVec 4} {addr addr' : Addr} {data data' : Byte} :
    txnWord op kind addr data = txnWord op' kind' addr' data' ↔
      op = op' ∧ kind = kind' ∧ addr = addr' ∧ data = data' := by
  constructor
  · intro h
    exact ⟨by simpa using congrArg opField h, by simpa using congrArg kindField h,
      by simpa using congrArg addrField h, by simpa using congrArg dataField h⟩
  · rintro ⟨rfl, rfl, rfl, rfl⟩
    rfl

/-- The fields an operation uses (R81), as the word that is all ones there. -/
theorem Instr.usedBits_fields (i : Instr) :
    i.usedBits = match i with
      | .read _ _ | .readVram _ _ => txnWord 0xF 0xF 0xFFFF 0
      | .write _ _ | .dbgWrite _ _ | .writeVram _ _ => txnWord 0xF 0 0xFFFF 0xFF
      | .dbgRead _ | .dbgReadVram _ | .toAbsChr _ => txnWord 0xF 0 0xFFFF 0
      | .getOpenBus _ | .register _ => txnWord 0xF 0 0 0xFF
      | .reset _ => txnWord 0xF 1 0 0
      | .cpuClock | .snapshot | .restore | .reservedE | .reservedF => txnWord 0xF 0 0 0
      | .m15Mode0 _ _ | .m15Mode1 _ _ | .m15Mode2 _ _ | .m15Mode3 _ _ => txnWord 0xF 0 0xFFFF 0xFF := by
  cases i <;> rfl

/-! ## The four Mapper15 rows among the WRITE words -/

theorem decodeWrite_m15Addr (mid : BitVec 13) (data : Byte) :
    decodeWrite (m15Addr mid 0#2) data = .m15Mode0 mid data ∧
    decodeWrite (m15Addr mid 1#2) data = .m15Mode1 mid data ∧
    decodeWrite (m15Addr mid 2#2) data = .m15Mode2 mid data ∧
    decodeWrite (m15Addr mid 3#2) data = .m15Mode3 mid data := by
  simp [decodeWrite, m15Addr_bit15]

/-- A word with address bit 15 clear is WRITE's own (log 10). -/
theorem decodeWrite_of_bit15_clear {addr : Addr} (data : Byte) (h15 : addr.getLsbD 15 = false) :
    decodeWrite addr data = .write addr data := by
  rw [decodeWrite, h15]
  rfl

/-- A WRITE word and the four rows it may be read as: the reading is well-formed, uses the address and the data, and
its own word has both. -/
theorem decodeWrite_spells (addr : Addr) (data : Byte) :
    (decodeWrite addr data).WellFormed ∧ (decodeWrite addr data).usedBits = txnWord 0xF 0 0xFFFF 0xFF ∧
      encode (decodeWrite addr data) = txnWord 0x1 0 addr data := by
  by_cases h15 : addr.getLsbD 15 = true
  · obtain ⟨mid, sel, rfl⟩ : ∃ mid sel, addr = m15Addr mid sel := ⟨_, _, (m15Addr_fields h15).symm⟩
    obtain ⟨hmode0, hmode1, hmode2, hmode3⟩ := decodeWrite_m15Addr mid data
    obtain ⟨⟨n, hn⟩⟩ := sel
    interval_cases n
    · exact hmode0 ▸ ⟨trivial, rfl, rfl⟩
    · exact hmode1 ▸ ⟨trivial, rfl, rfl⟩
    · exact hmode2 ▸ ⟨trivial, rfl, rfl⟩
    · exact hmode3 ▸ ⟨trivial, rfl, rfl⟩
  · have hclear := eq_false_of_ne_true h15
    exact decodeWrite_of_bit15_clear data hclear ▸ ⟨hclear, rfl, rfl⟩

/-! ## What a word spells -/

/-- The one bit of RESET's kind field (R82). -/
theorem softBit_txnWord (op kind : BitVec 4) (addr : Addr) (data : Byte) :
    softBit (txnWord op kind addr data) = kind[0] := by
  have h := congrArg (BitVec.getLsbD · 0) (kindField_txnWord op kind addr data)
  simpa [softBit, kindField] using h

theorem kind_and_one (kind : BitVec 4) : kind &&& 1#4 = if kind[0] then 1#4 else 0#4 := by
  decide +revert

/-- The masks of whole fields keep them. -/
theorem and_wholeField :
    (∀ kind : BitVec 4, kind &&& 15#4 = kind) ∧ (∀ addr : Addr, addr &&& 65535#16 = addr) ∧
      ∀ data : Byte, data &&& 255#8 = data :=
  ⟨fun _ => BitVec.and_allOnes, fun _ => BitVec.and_allOnes, fun _ => BitVec.and_allOnes⟩

/-- A word carries, in the bits its instruction uses, that instruction's own word; and the instruction is
well-formed. -/
theorem decode_spells (w : TxnWord) :
    (decode w).WellFormed ∧ w &&& (decode w).usedBits = encode (decode w) := by
  rw [← txnWord_fields w]
  generalize opField w = op, kindField w = kind, addrField w = addr, dataField w = data
  obtain ⟨⟨n, hn⟩⟩ := op
  interval_cases n
  pick_goal 2
  · -- WRITE, and the four Mapper15 rows read from its code
    obtain ⟨hwf, hused, hword⟩ := decodeWrite_spells addr data
    have hdec : decode (txnWord 1#4 kind addr data) = decodeWrite addr data := by simp [decode]
    simp only [BitVec.ofFin_eq_ofNat, hdec, hused, hword]
    exact ⟨hwf, by simp [txnWord_and, and_wholeField]⟩
  all_goals
    simp [decode, encode, Instr.WellFormed, Instr.usedBits_fields, txnWord_and, softBit_txnWord,
      kind_and_one, and_wholeField]

/-- A word that carries a well-formed instruction's own word, in the bits the instruction uses, spells it. -/
theorem decode_of_spells {w : TxnWord} {i : Instr} (hwf : i.WellFormed) (hw : w &&& i.usedBits = encode i) :
    decode w = i := by
  rw [← txnWord_fields w] at hw ⊢
  generalize opField w = op, kindField w = kind, addrField w = addr, dataField w = data at hw ⊢
  cases i <;>
    simp only [Instr.usedBits_fields, encode, txnWord_and, txnWord_inj] at hw <;>
    obtain ⟨hop, hkind, haddr, hdata⟩ := hw <;>
    simp only [BitVec.ofNat_eq_ofNat, and_wholeField, kind_and_one, BitVec.and_zero] at hop hkind haddr hdata <;>
    subst hop
  case write =>
    simp [decode, haddr, hdata, decodeWrite_of_bit15_clear _ hwf]
  case reset isSoft =>
    have hsoft : kind[0] = isSoft := by
      revert hkind
      generalize kind[0] = soft
      decide +revert
    simp [decode, softBit_txnWord, hsoft]
  all_goals simp [decode, hkind, haddr, hdata, decodeWrite_m15Addr]

/-- A word spells a well-formed instruction exactly when it carries the instruction's own word in the bits the
instruction uses (R81). -/
theorem decode_eq_iff (w : TxnWord) (i : Instr) :
    decode w = i ↔ i.WellFormed ∧ w &&& i.usedBits = encode i := by
  constructor
  · rintro rfl
    exact decode_spells w
  · exact fun ⟨hwf, hw⟩ => decode_of_spells hwf hw

/-! ## The encoding statements -/

/-- The row of the opcode table fixes bits the instruction uses. -/
theorem Instr.tableMask_used (i : Instr) : i.usedBits &&& i.tableMask = i.tableMask := by
  cases i <;> simp only [Instr.usedBits, Instr.tableMask] <;> decide

/-- Every instruction's own word carries its row's fixed bits. -/
theorem encode_tableMatch (i : Instr) : encode i &&& i.tableMask = i.tableMatch := by
  cases i
  case m15Mode0 mid v => exact Laws.TableRow.m15Mode0 mid v
  case m15Mode1 mid v => exact Laws.TableRow.m15Mode1 mid v
  case m15Mode2 mid v => exact Laws.TableRow.m15Mode2 mid v
  case m15Mode3 mid v => exact Laws.TableRow.m15Mode3 mid v
  all_goals exact Laws.TableRow.txnWord_op ..

/-- An instruction's own word has zeros outside the bits it uses. -/
theorem encode_used (i : Instr) : encode i &&& i.usedBits = encode i := by
  cases i <;>
    simp [encode, Instr.usedBits_fields, txnWord_and, and_wholeField]
  case reset isSoft => cases isSoft <;> rfl

/-- Settles O2: an instruction's own word carries itself in the bits it uses. -/
theorem decodeEncodeAgree : Obligations.DecodeEncodeAgree := fun i hwf =>
  (decode_eq_iff (encode i) i).2 ⟨hwf, encode_used i⟩

/-- Settles O3: on the bits its instruction uses a word is the instruction's own word, and the row fixes such bits
only. -/
theorem everyWordMatchesItsRow : Obligations.EveryWordMatchesItsRow := by
  intro w
  obtain ⟨hwf, hw⟩ := decode_spells w
  refine ⟨hwf, ?_⟩
  calc w &&& (decode w).tableMask
      = w &&& (decode w).usedBits &&& (decode w).tableMask := by rw [BitVec.and_assoc, Instr.tableMask_used]
    _ = (decode w).tableMatch := by rw [hw, encode_tableMatch]

/-- Settles O4: the other word carries the same instruction's own word. -/
theorem unusedFieldsAreIgnored : Obligations.UnusedFieldsAreIgnored := by
  intro w w' h
  obtain ⟨hwf, hw⟩ := decode_spells w
  exact decode_of_spells hwf (h.trans hw)

/-- Settles O1: fixed words, each decoded by evaluation. -/
theorem specWordsDecode : Obligations.SpecWordsDecode := by
  unfold Obligations.SpecWordsDecode
  decide

end Sys2Proof
end

section
/-! One step and the phase Failed (spec/00_scope.md R7, spec/44_registry.md R226). -/

namespace Sys2Proof.Machine

/-- In Failed no instruction has a step (R226, log 9). -/
theorem exec_failed {s : State} (h : s.phase = .failed) (i : Instr) : exec i s = .fault .noStepInFailedPhase := by
  cases i <;>
    simp only [exec, execRead, execWrite, execDbgRead, execDbgWrite, execReadVram, execWriteVram, execDbgReadVram,
      execGetOpenBus, execToAbsChr, execCpuClock, execReset, execRegister, execSnapshot, execRestore, execReservedE,
      execReservedF, execM15Mode0, execM15Mode1, execM15Mode2, execM15Mode3, State.transact_failed h,
      State.refuseReserved, h, if_true]

/-- An instruction that completes did not start in Failed. -/
theorem exec_next_phase {s t : State} {i : Instr} (h : exec i s = .next t) : s.phase ≠ .failed := by
  intro hp
  simp [exec_failed hp i] at h

/-- What is known of the state an instruction completes with is known of its next state. -/
theorem exec_next_property {s t : State} {i : Instr} {P : State → Prop} (h : ∃ u, exec i s = .next u ∧ P u)
    (ht : exec i s = .next t) : P t := by
  obtain ⟨u, hu, hP⟩ := h
  exact Host.Outcome.next.inj (hu.symm.trans ht) ▸ hP

/-- With a word waiting a step runs the instruction it spells, on the state without the word (R7). -/
theorem step_of_pending {s : State} {w : TxnWord} {rest : List TxnWord} (h : s.pending = w :: rest) :
    step s = exec (decode w) { s with pending := rest } := by
  simp [step, State.fetch, h]

/-- With no word waiting a step is idle. -/
theorem step_of_noPending {s : State} (h : s.pending = []) : step s = s.idle := by
  simp [step, State.fetch, h]

/-- Settles O5: with a word waiting `step_of_pending` says what runs; a placed word is such a word. -/
theorem stepRunsDecodedInstruction : Obligations.StepRunsDecodedInstruction := by
  refine ⟨fun s w rest h => step_of_pending h, fun s h hp => ?idle, fun s n => ?placed⟩
  case idle => simp [step_of_noPending h, State.idle, hp]
  case placed =>
    have hword : BitVec.ofNat 32 (n % 2 ^ 32) = BitVec.ofNat 32 n := by
      apply BitVec.eq_of_toNat_eq
      simp
    rw [← hword]
    exact step_of_pending rfl

/-- Settles O45: every instruction by `exec_failed`, and a step runs one or is idle. -/
theorem failedHasNoStep : Obligations.FailedHasNoStep := by
  intro s h
  refine ⟨?_, exec_failed h⟩
  cases hw : s.pending with
  | nil => simp [step_of_noPending hw, State.idle, h]
  | cons w rest =>
    rw [step_of_pending hw]
    exact exec_failed (s := { s with pending := rest }) h (decode w)

end Sys2Proof.Machine
end

section
/-! The CPU bus (spec/42_cpu_bus.md): where a read gets its byte, READ and DBG_READ as equations over that route,
WRITE and DBG_WRITE as equations over the write's routing, and the Mapper15 rows as WRITEs. -/

namespace Sys2Proof.Machine

/-! ## Where a read gets its byte (R86, R160) -/

theorem State.cpuRoute_of_ram (s : State) {a : Addr} (ha : a.toNat ≤ 0x1FFF) :
    s.cpuRoute a = (s.ram.read (a.toNat % 0x0800), s) := by
  simp only [State.cpuRoute, (isRamAddr_iff a).2 ha, if_true, ramIndex_eq]

theorem State.cpuRoute_of_handler {s : State} {a : Addr} {h : HandlerId} (ha : 0x1FFF < a.toNat)
    (hh : s.readTable.lookup a = some h) : s.cpuRoute a = s.handlerRead h a := by
  simp [State.cpuRoute, (isRamAddr_false_iff a).2 ha, hh]

theorem State.cpuRoute_of_unmapped {s : State} {a : Addr} (h : s.ReadUnmapped a) :
    s.cpuRoute a = (s.openBus, s) := by
  simp [State.cpuRoute, h.1, h.2]

/-- In the window the mapper gives the byte of the slot's page (R137). -/
theorem State.cpuRoute_of_mapper {s : State} {a : Addr} (ha : 0x8000 ≤ a.toNat)
    (hm : s.readTable.lookup a = some .mapper) : s.cpuRoute a = (s.prgRead a, s) := by
  rw [State.cpuRoute_of_handler (by omega) hm]
  simp [State.handlerRead, State.mapperCpuRead, (isMapperAddr_iff a).2 ha]

theorem prgRead_eq (s : State) {a : Addr} {k : Fin 4} {off : Nat} (hoff : off < 0x2000)
    (ha : a.toNat = 0x8000 + k.val * 0x2000 + off) :
    s.prgRead a = Memory.read s.cfg.prgImage (s.prgSlot[k] * 0x2000 + off) := by
  have hslot : prgSlotOf a = k := by
    apply Fin.ext
    rw [prgSlotOf_val]
    omega
  have hoffset : prgOffset a = off := by
    rw [prgOffset_eq]
    omega
  simp only [State.prgRead, State.prgByte, pageSize, hslot, hoffset]

/-- The route does not look at the phase. -/
theorem State.cpuRoute_phase (s : State) (a : Addr) (p : Phase) :
    State.cpuRoute a { s with phase := p } = ((s.cpuRoute a).1, { (s.cpuRoute a).2 with phase := p }) := by
  simp only [State.cpuRoute]
  split
  · rfl
  · split
    · next h _ =>
      cases h with
      | mapper =>
        simp only [State.handlerRead, State.mapperCpuRead]
        split <;> rfl
      | device d =>
        simp only [State.handlerRead, State.deviceAnswer]
        split <;> rfl
    · rfl

/-- Everything a route can answer: a byte, and the state with some device log, answers and draws. -/
theorem State.cpuRoute_shape (s : State) (a : Addr) :
    ∃ raw calls answers draws,
      s.cpuRoute a = (raw, { s with deviceLog := calls, answers := answers, draws := draws }) :=
  ⟨_, _, _, _, Prod.ext rfl (s.cpuRoute_frame a)⟩

/-- Everything a device can answer: a byte, and the state with some answers and draws. -/
theorem State.deviceAnswer_shape (s : State) :
    ∃ v answers draws, s.deviceAnswer = (v, { s with answers := answers, draws := draws }) :=
  ⟨_, _, _, Prod.ext rfl s.deviceAnswer_frame⟩

/-! ## READ and DBG_READ -/

/-- READ (R160) over the route: the patched byte is traced, latched and returned. -/
theorem exec_read_of_route {s t : State} {a : Addr} {raw : Byte} (kind : AccessKind) (hp : s.phase ≠ .failed)
    (hr : s.cpuRoute a = (raw, t)) :
    exec (.read a kind) s = .next { t with
      phase := .running
      trace := s.trace ++ [{ op := .read, space := .cpu, addr := a, value := s.patch a raw, kind := some kind }]
      openBus := s.patch a raw
      results := s.results ++ [.byte (s.patch a raw)] } := by
  obtain ⟨raw, calls, answers, draws, hshape⟩ := s.cpuRoute_shape a
  obtain ⟨rfl, rfl⟩ := Prod.mk.inj (hr.symm.trans hshape)
  simp only [exec, execRead, State.transact_eq hp, State.cpuRoute_phase, hr]
  rfl

/-- DBG_READ (R161) over the route: the patched byte is returned, and nothing else. -/
theorem exec_dbgRead_of_route {s t : State} {a : Addr} {raw : Byte} (hp : s.phase ≠ .failed)
    (hr : s.cpuRoute a = (raw, t)) :
    exec (.dbgRead a) s = .next { t with
      phase := .running
      results := s.results ++ [.byte (s.patch a raw)] } := by
  obtain ⟨raw, calls, answers, draws, hshape⟩ := s.cpuRoute_shape a
  obtain ⟨rfl, rfl⟩ := Prod.mk.inj (hr.symm.trans hshape)
  simp only [exec, execDbgRead, State.transact_eq hp, State.cpuRoute_phase, hr]
  rfl

/-- Settles O6: the route is RAM. -/
theorem readOfRam : Obligations.ReadOfRam := fun s _ kind hp ha =>
  exec_read_of_route kind hp (s.cpuRoute_of_ram ha)

/-- Settles O7: the route is the mapper, whose byte `prgRead_eq` gives. -/
theorem readOfPrg : Obligations.ReadOfPrg := by
  intro s a kind k off hp hm hoff ha
  rw [← prgRead_eq s hoff ha]
  exact exec_read_of_route kind hp (State.cpuRoute_of_mapper (by omega) hm)

/-- Settles O8: the route is the latch. -/
theorem readOfUnmapped : Obligations.ReadOfUnmapped := fun _ a kind hp ha hnone =>
  exec_read_of_route kind hp (State.cpuRoute_of_unmapped ⟨(isRamAddr_false_iff a).2 ha, hnone⟩)

/-- Settles O9: the route is the device's answer, which uses up an answer or a draw. -/
theorem readOfDevice : Obligations.ReadOfDevice := by
  intro s a kind d hp ha hd
  obtain ⟨raw, answers, draws, hanswer⟩ := s.deviceAnswer_shape
  have hroute := State.cpuRoute_of_handler ha hd
  rw [State.handlerRead, hanswer] at hroute
  refine ⟨raw, answers, draws, fun v rest hfixed => ?_, exec_read_of_route kind hp hroute⟩
  rw [State.deviceAnswer_fixed hfixed] at hanswer
  simp only [Prod.mk.injEq, State.mk.injEq, true_and] at hanswer
  simp [hanswer]

/-- Settles O10: both run over the same route. -/
theorem dbgReadReturnsWhatReadReturns : Obligations.DbgReadReturnsWhatReadReturns := by
  intro s a kind hp
  obtain ⟨raw, calls, answers, draws, hr⟩ := s.cpuRoute_shape a
  exact ⟨_, _, exec_read_of_route kind hp hr, exec_dbgRead_of_route hp hr, rfl, rfl, rfl⟩

/-- Settles O13: each mirror is a RAM address with the same index, and no patch is the identity. -/
theorem ramMirrorsReadAlike : Obligations.RamMirrorsReadAlike := by
  intro s i k kind hp hpatch hi
  have ha : (BitVec.ofNat 16 (i + k.val * 0x0800)).toNat = i + k.val * 0x0800 := by
    rw [BitVec.toNat_ofNat]
    omega
  have hmod : (i + k.val * 0x0800) % 0x0800 = i := by omega
  have hread := exec_read_of_route kind hp (s.cpuRoute_of_ram (a := BitVec.ofNat 16 (i + k.val * 0x0800)) (by omega))
  simp only [ha, hmod, State.patch, hpatch, patchByte_nil] at hread
  exact ⟨_, hread, rfl, rfl⟩

/-- Settles O11: the effect of GET_OPEN_BUS is its result alone. -/
theorem getOpenBusMasksTheLatch : Obligations.GetOpenBusMasksTheLatch := by
  intro s mask hp
  simp only [exec, execGetOpenBus, State.transact_eq hp, State.answer]

/-! ## WRITE and DBG_WRITE -/

theorem State.routeWrite_of_ram (s : State) {a : Addr} (ha : a.toNat ≤ 0x1FFF) (v : Byte) :
    s.routeWrite (State.writeRegister a v) a v = s.setRam (a.toNat % 0x0800) v := by
  simp only [State.routeWrite, (isRamAddr_iff a).2 ha, if_true, ramIndex_eq]

theorem State.routeWrite_of_device {s : State} {a : Addr} {d : Nat} (ha : 0x1FFF < a.toNat)
    (hd : s.writeTable.lookup a = some (.device d)) (v : Byte) :
    s.routeWrite (State.writeRegister a v) a v =
      s.deviceCalled { op := .write, device := d, addr := a, value := v } := by
  simp [State.routeWrite, (isRamAddr_false_iff a).2 ha, hd]

theorem State.routeWrite_of_unmapped {s : State} {a : Addr} (ha : 0x1FFF < a.toNat)
    (hnone : s.writeTable.lookup a = none) (v : Byte) :
    s.routeWrite (State.writeRegister a v) a v = s := by
  simp [State.routeWrite, (isRamAddr_false_iff a).2 ha, hnone]

/-- A write's routing looks neither at the phase nor at the trace. -/
theorem State.routeWrite_phase_trace (s : State) (a : Addr) (v : Byte) (p : Phase) (trace : List TraceEvent) :
    State.routeWrite (State.writeRegister a v) a v { s with phase := p, trace := trace } =
      { s.routeWrite (State.writeRegister a v) a v with phase := p, trace := trace } := by
  simp only [State.routeWrite, State.writeRegister_eq]
  split
  · rfl
  · split <;> rfl

/-- Everything a write's routing can give: the state with some RAM, device log and PRG slots and some mode. -/
theorem State.routeWrite_shape (s : State) (a : Addr) (v : Byte) :
    ∃ ram calls slots mode, s.routeWrite (State.writeRegister a v) a v =
      { s with ram := ram, deviceLog := calls, prgSlot := slots, mirroring := mode } :=
  ⟨_, _, _, _, s.routeWrite_frame a v⟩

/-- WRITE (R162) over the routing, as DBG_WRITE and the trace event. -/
theorem exec_write_of_route {s t : State} {a : Addr} {v : Byte} (hp : s.phase ≠ .failed)
    (hr : s.routeWrite (State.writeRegister a v) a v = t) :
    exec (.write a v) s = .next { t with
      phase := .running
      trace := s.trace ++ [{ op := .write, space := .cpu, addr := a, value := v, kind := none }]
      results := s.results ++ [.done] } := by
  obtain ⟨ram, calls, slots, mode, hshape⟩ := s.routeWrite_shape a v
  obtain rfl := hr.symm.trans hshape
  simp only [exec, execWrite, State.transact_eq hp, State.tracedWrite, State.traced, State.routeWrite_phase_trace, hr]
  rfl

/-- DBG_WRITE (R163) over the routing. -/
theorem exec_dbgWrite_of_route {s t : State} {a : Addr} {v : Byte} (hp : s.phase ≠ .failed)
    (hr : s.routeWrite (State.writeRegister a v) a v = t) :
    exec (.dbgWrite a v) s = .next { t with phase := .running, results := s.results ++ [.done] } := by
  obtain ⟨ram, calls, slots, mode, hshape⟩ := s.routeWrite_shape a v
  obtain rfl := hr.symm.trans hshape
  simp only [exec, execDbgWrite, State.transact_eq hp, State.routeWrite_phase_trace s a v .running s.trace, hr]
  rfl

/-- Settles O14: the routing writes RAM, which `read_write` reads back. -/
theorem writeOfRam : Obligations.WriteOfRam := by
  intro s a v hp ha hwf
  refine ⟨s.ram.write (a.toNat % 0x0800) v, exec_write_of_route hp (s.routeWrite_of_ram ha v), ?written, ?kept⟩
  case written => simp [Memory.read_write hwf]
  case kept =>
    intro i hi
    rw [Memory.read_write hwf, if_neg hi.symm]

/-- Settles O15: the routing does nothing. -/
theorem writeOfUnmapped : Obligations.WriteOfUnmapped := fun _ _ v hp ha hnone =>
  exec_write_of_route hp (State.routeWrite_of_unmapped ha hnone v)

/-- Settles O16: the routing is the device's call. -/
theorem writeOfDevice : Obligations.WriteOfDevice := fun _ _ v _ hp ha hd =>
  exec_write_of_route hp (State.routeWrite_of_device ha hd v)

/-- Settles O18: both run over the same routing, which leaves the trace alone. -/
theorem dbgWriteIsWriteWithoutTrace : Obligations.DbgWriteIsWriteWithoutTrace := by
  intro s a v hp
  obtain ⟨ram, calls, slots, mode, hr⟩ := s.routeWrite_shape a v
  have hwrite := exec_write_of_route hp hr
  exact ⟨_, exec_dbgWrite_of_route hp hr, rfl, hwrite⟩

/-- Settles O19: after the WRITE the READ's RAM byte, at the same index, is the one written (`read_write`). -/
theorem ramWriteIsReadThroughEveryMirror : Obligations.RamWriteIsReadThroughEveryMirror := by
  intro s a b v kind hp hwf ha hb hab
  have hwrite := exec_write_of_route hp (s.routeWrite_of_ram ha v)
  refine ⟨_, _, hwrite, exec_read_of_route kind (by simp) (State.cpuRoute_of_ram _ hb), ?_⟩
  simp [hab, Memory.read_write hwf, State.patch]

/-! ## The Mapper15 rows are WRITEs (log 10) -/

/-- What the register write does at the address of each row: the row's own command (R131-R134). -/
theorem writeRegister_m15Addr (mid : BitVec 13) (v : Byte) :
    State.writeRegister (m15Addr mid 0) v = (fun t => (t.setMirroringType (mirroringOf v)).bankMode0 v) ∧
    State.writeRegister (m15Addr mid 1) v = (fun t => (t.setMirroringType (mirroringOf v)).bankMode13 false v) ∧
    State.writeRegister (m15Addr mid 2) v = (fun t => (t.setMirroringType (mirroringOf v)).bankMode2 v) ∧
    State.writeRegister (m15Addr mid 3) v = (fun t => (t.setMirroringType (mirroringOf v)).bankMode13 true v) := by
  have hbit1 : (m15Addr mid 1).getLsbD 1 = false := by
    rw [addr_bit1, m15Addr_toNat, decide_eq_false_iff_not]
    change ¬ (0x8000 + mid.toNat * 4 + 1) / 2 % 2 = 1
    omega
  have hbit3 : (m15Addr mid 3).getLsbD 1 = true := by
    rw [addr_bit1, m15Addr_toNat, decide_eq_true_eq]
    change (0x8000 + mid.toNat * 4 + 3) / 2 % 2 = 1
    omega
  refine ⟨?_, ?_, ?_, ?_⟩ <;> funext t <;> simp only [State.writeRegister, m15Sel_m15Addr, hbit1, hbit3] <;> rfl

/-- Settles O24: the command of each row is what `writeRegister` does at the row's address. -/
theorem mapper15RowsAreWrites : Obligations.Mapper15RowsAreWrites := by
  intro s mid v
  obtain ⟨hmode0, hmode1, hmode2, hmode3⟩ := writeRegister_m15Addr mid v
  simp only [exec, execWrite, hmode0, hmode1, hmode2, hmode3]
  exact ⟨rfl, rfl, rfl, rfl⟩

/-- Where the mapper handles the row's address, the row is the traced command with the slots of its address (R135). -/
theorem exec_m15_of_mapper {s : State} {mid : BitVec 13} {sel : BitVec 2} {i : Instr} (v : Byte)
    (hi : exec i s = exec (.write (m15Addr mid sel) v) s) (hp : s.phase ≠ .failed)
    (hm : s.writeTable.lookup (m15Addr mid sel) = some .mapper) :
    exec i s = .next { s with
      phase := .running
      trace := s.trace ++ [{ op := .write, space := .cpu, addr := m15Addr mid sel, value := v, kind := none }]
      mirroring := if v.getLsbD 6 then .horizontal else .vertical
      prgSlot := commandSlots s.cfg (m15Addr mid sel) v
      results := s.results ++ [.done] } :=
  hi.trans (exec_write_of_mapper v hp (by rw [m15Addr_toNat]; omega) hm)

theorem m15Addr_mod4 (mid : BitVec 13) (sel : BitVec 2) : (m15Addr mid sel).toNat % 4 = sel.toNat := by
  rw [← m15Sel_toNat, m15Sel_m15Addr]

/-- Settles O20: the WRITE at the row's address, with the slots of mode 0. -/
theorem mode0SetsXorIndexedSlots : Obligations.Mode0SetsXorIndexedSlots := by
  intro s mid v hp hm
  exact ⟨_, exec_m15_of_mapper v (mapper15RowsAreWrites s mid v).1 hp hm,
    commandSlots_mode0 s.cfg v (m15Addr_mod4 mid 0)⟩

/-- Settles O21: the WRITE at the row's address, with the slots of mode 1. -/
theorem mode1RepeatsTheNextPage : Obligations.Mode1RepeatsTheNextPage := by
  intro s mid v hp hm b
  have hslots := commandSlots_mode13 s.cfg v (.inl (m15Addr_mod4 mid 1))
  have hexec := exec_m15_of_mapper v (mapper15RowsAreWrites s mid v).2.1 hp hm
  rw [hslots, m15Addr_mod4] at hexec
  exact hexec

/-- Settles O22: the WRITE at the row's address, with the slots of mode 2. -/
theorem mode2MirrorsOnePage : Obligations.Mode2MirrorsOnePage := by
  intro s mid v hp hm b
  have hexec := exec_m15_of_mapper v (mapper15RowsAreWrites s mid v).2.2.1 hp hm
  have hslots : commandSlots s.cfg (m15Addr mid 2) v =
      #v[b % s.cfg.prgPageCount, b % s.cfg.prgPageCount, b % s.cfg.prgPageCount, b % s.cfg.prgPageCount] := by
    ext k hk
    have hslot := commandSlots_mode2 s.cfg v (m15Addr_mod4 mid 2) ⟨k, hk⟩
    interval_cases k <;> exact hslot
  rw [hslots] at hexec
  exact hexec

/-- Settles O23: the WRITE at the row's address, with the slots of mode 3. -/
theorem mode3RepeatsThePair : Obligations.Mode3RepeatsThePair := by
  intro s mid v hp hm b
  have hslots := commandSlots_mode13 s.cfg v (.inr (m15Addr_mod4 mid 3))
  have hexec := exec_m15_of_mapper v (mapper15RowsAreWrites s mid v).2.2.2 hp hm
  rw [hslots, m15Addr_mod4] at hexec
  exact hexec

/-! ## The pages of a command (R139, R140, R295) -/

/-- Bit 0 flipped or not, a number stays at most 257. -/
theorem xor_le_257 {y sub : Nat} (hy : y ≤ 257) (hsub : sub ≤ 1) : y ^^^ sub ≤ 257 := by
  obtain rfl | rfl : sub = 0 ∨ sub = 1 := by omega
  · simpa using hy
  · rcases Nat.even_or_odd y with h | h
    · obtain ⟨m, rfl⟩ := h
      rw [Nat.xor_one_of_even ⟨m, rfl⟩]
      omega
    · rw [Nat.xor_one_of_odd h]
      omega

/-- The pages of mode 1/3 are the one the bank and the sub-bank name and the next (R133). -/
theorem commandSlots_mode13_le (c : Config) {a : Addr} {v : Byte} {b : Nat} (h : a.toNat % 4 = 1 ∨ a.toNat % 4 = 3)
    (hb : (v &&& c.prgBankFieldMask).toNat * 2 ||| v.toNat / 128 ≤ b) (k : Fin 4) :
    (commandSlots c a v)[k] ≤ b + 1 := by
  have hwrap : ∀ p, p ≤ b + 1 → p % c.prgPageCount ≤ b + 1 := fun p hp => (Nat.mod_le _ _).trans hp
  obtain ⟨p, hp, hslots⟩ : ∃ p ≤ b, commandSlots c a v = #v[p % c.prgPageCount, (p + 1) % c.prgPageCount,
      (if a.toNat % 4 = 3 then p else p + 1) % c.prgPageCount, (p + 1) % c.prgPageCount] :=
    ⟨_, hb, commandSlots_mode13 c v h⟩
  rw [hslots]
  fin_cases k
  · exact hwrap p (by omega)
  · exact hwrap (p + 1) (by omega)
  · exact hwrap (if a.toNat % 4 = 3 then p else p + 1) (by split <;> omega)
  · exact hwrap (p + 1) (by omega)

/-- Settles O25: with the mask 0x7F the bank is at most 254 and the sub-bank at most 1; wrapping makes no page
larger. -/
theorem commandsAskForAtMostPage257 : Obligations.CommandsAskForAtMostPage257 := by
  intro s t a v hmask _ ha hm ht k
  rw [exec_write_of_mapper v (exec_next_phase ht) ha hm] at ht
  obtain rfl := Host.Outcome.next.inj ht
  have hbank : (v &&& 0x7F#8).toNat ≤ 127 := by
    rw [BitVec.toNat_and]
    exact Nat.and_le_right
  have hsub : v.toNat / 128 ≤ 1 := by omega
  have hb : (v &&& 0x7F#8).toNat * 2 ||| v.toNat / 128 < 2 ^ 8 := Nat.or_lt_two_pow (by omega) (by omega)
  have hmode : a.toNat % 4 = 0 ∨ (a.toNat % 4 = 1 ∨ a.toNat % 4 = 3) ∨ a.toNat % 4 = 2 := by omega
  rcases hmode with h | h | h
  · have hpage := xor_le_257 (y := (v &&& 0x7F#8).toNat * 2 + k.val) (by omega) hsub
    simp only [commandSlots_mode0 s.cfg v h, hmask, h, if_true]
    exact (Nat.mod_le _ _).trans hpage
  · rw [if_neg (by omega), if_neg (by omega)]
    exact commandSlots_mode13_le s.cfg h (hmask ▸ Nat.le_of_lt_succ hb) k
  · simp only [commandSlots_mode2 s.cfg v h, hmask, h]
    exact (Nat.mod_le _ _).trans (by simpa using Nat.le_of_lt_succ hb)

/-- In an image whose page count divides 128 the slots depend on the bank modulo 128 and the sub-bank alone. -/
theorem commandSlots_congr {c : Config} {v v' : Byte} (a : Addr) (hn : c.prgPageCount ∣ 128)
    (hbank : bank c.prgBankFieldMask v' % 2 ^ 7 = bank c.prgBankFieldMask v % 2 ^ 7)
    (hsub : subBank v' = subBank v) : commandSlots c a v' = commandSlots c a v := by
  have hpage : ∀ p q : Nat, p % 2 ^ 7 = q % 2 ^ 7 → p % c.prgPageCount = q % c.prgPageCount := by
    intro p q h
    rw [← Nat.mod_mod_of_dvd p hn, ← Nat.mod_mod_of_dvd q hn]
    exact congrArg (· % c.prgPageCount) h
  have hxor : ∀ k, (bank c.prgBankFieldMask v' + k ^^^ subBank v) % c.prgPageCount =
      (bank c.prgBankFieldMask v + k ^^^ subBank v) % c.prgPageCount := fun k =>
    hpage _ _ (by rw [Nat.xor_mod_two_pow, Nat.xor_mod_two_pow, Nat.add_mod, hbank, ← Nat.add_mod])
  have hor : (bank c.prgBankFieldMask v' ||| subBank v) % 2 ^ 7 =
      (bank c.prgBankFieldMask v ||| subBank v) % 2 ^ 7 := by
    rw [Nat.or_mod_two_pow, Nat.or_mod_two_pow, hbank]
  have hnext : ∀ k, ((bank c.prgBankFieldMask v' ||| subBank v) + k) % c.prgPageCount =
      ((bank c.prgBankFieldMask v ||| subBank v) + k) % c.prgPageCount := fun k =>
    hpage _ _ (by rw [Nat.add_mod, hor, ← Nat.add_mod])
  have hfirst := hpage _ _ hor
  unfold commandSlots
  simp only [hsub, hxor, hfirst, hnext]
  split
  · rfl
  · rfl
  · split <;> simp only [hfirst, hnext]

/-- Bit 6 of a command under the mask 0x7F: worth 128 in the bank, nothing in the sub-bank, and the whole mirroring
(R131). -/
theorem bit6_flipped (v : Byte) :
    bank 0x7F (v ^^^ 0x40) % 2 ^ 7 = bank 0x7F v % 2 ^ 7 ∧ subBank (v ^^^ 0x40) = subBank v ∧
      mirroringOf (v ^^^ 0x40) ≠ mirroringOf v := by
  decide +revert

/-- Settles O26: bit 6 is worth 128 in the bank, so no slot sees it (`commandSlots_congr`), and it alone is the
mirroring. -/
theorem bit6OnlyTurnsMirroringInSmallImages : Obligations.Bit6OnlyTurnsMirroringInSmallImages := by
  intro s t u a v hmask hn ha hm ht hu
  have hp := exec_next_phase ht
  rw [exec_write_of_mapper _ hp ha hm] at ht hu
  obtain rfl := Host.Outcome.next.inj ht
  obtain rfl := Host.Outcome.next.inj hu
  obtain ⟨hbank, hsub, hmirroring⟩ := bit6_flipped v
  exact ⟨commandSlots_congr a hn (hmask ▸ hbank) hsub, hmirroring⟩

/-- Settles O27: after the command every slot holds its page, so whichever slot covers the address gives that page's
byte. -/
theorem nextReadSeesTheCommand : Obligations.NextReadSeesTheCommand := by
  intro s mid v a kind hp hmw hmr ha
  refine ⟨_, _, exec_m15_of_mapper v (mapper15RowsAreWrites s mid v).2.2.1 hp hmw,
    exec_read_of_route kind (by simp) (State.cpuRoute_of_mapper ha hmr), ?_⟩
  have hslot := commandSlots_mode2 s.cfg v (m15Addr_mod4 mid 2) (prgSlotOf a)
  simp only [State.prgRead, State.prgByte, State.patch, pageSize, prgOffset_eq, hslot]

end Sys2Proof.Machine
end

section
/-! The VRAM bus (spec/43_vram_bus.md): normalized addresses and the nametable behind one, then READ_VRAM,
WRITE_VRAM and DBG_READ_VRAM as equations over what the mapper reads and writes. -/

namespace Sys2Proof.Machine

/-! ## Addresses (R190, R112) -/

/-- Below the fold normalization is the mask. -/
theorem normVram_of_lt {a : Addr} (h : a.toNat % 0x4000 < 0x3000) : normVram a = a &&& 0x3FFF := by
  apply BitVec.eq_of_toNat_eq
  rw [normVram_toNat, if_pos h, vramMask_toNat]

/-- A quadrant's address, straight or folded, normalizes to the quadrant's own; its quadrant and its offset are read
back. -/
theorem normVram_of_quadrant {a : Addr} {q off : Nat} (hq : q < 4) (hoff : off < 0x0400)
    (ha : a.toNat % 0x4000 = 0x2000 + q * 0x0400 + off ∨ a.toNat % 0x4000 = 0x3000 + q * 0x0400 + off) :
    normVram a = BitVec.ofNat 16 (0x2000 + q * 0x0400 + off) ∧ 0x1FFF < (normVram a).toNat ∧
      (quadrant (normVram a)).val = q ∧ nametableIndex (normVram a) = off := by
  have hnat : (normVram a).toNat = 0x2000 + q * 0x0400 + off := by
    rw [normVram_toNat]
    split <;> omega
  rw [quadrant_val, nametableIndex_eq, hnat]
  refine ⟨BitVec.eq_of_toNat_eq ?_, by omega, by omega, by omega⟩
  rw [hnat, BitVec.toNat_ofNat]
  omega

/-- The quadrant tables of R112 on numbers (log 23): the mode names nametable `p` for quadrant `q`. -/
def MirroringMode.Names (mode : MirroringMode) (q p : Nat) : Prop :=
  mode = .vertical ∧ p = q % 2 ∨ mode = .horizontal ∧ p = q / 2 ∨ mode = .singleScreen0 ∧ p = 0 ∨
    mode = .singleScreen1 ∧ p = 1

/-- The nametable the mode names for an address's quadrant. -/
theorem State.nametableOf_of_names {s : State} {n : Addr} {q p : Nat} (hq : (quadrant n).val = q)
    (hmode : MirroringMode.Names s.mirroring q p) :
    ∃ page : Fin 2, page.val = p ∧ s.nametableOf n = some page := by
  obtain ⟨k, hk⟩ : ∃ k, quadrant n = k := ⟨_, rfl⟩
  rw [hk] at hq
  subst hq
  rcases hmode with ⟨h, rfl⟩ | ⟨h, rfl⟩ | ⟨h, rfl⟩ | ⟨h, rfl⟩ <;>
    simp only [State.nametableOf, h, nametableMap, hk, Option.map_some] <;>
    exact ⟨_, by fin_cases k <;> rfl, rfl⟩

/-- Only four-screen mirroring has no map. -/
theorem State.nametableOf_isSome_of_mapped {s : State} (h : s.mirroring ≠ .fourScreen) (n : Addr) :
    ∃ p, s.nametableOf n = some p := by
  cases hm : s.mirroring <;> simp only [State.nametableOf, hm, nametableMap]
  case fourScreen => exact absurd hm h
  all_goals exact ⟨_, rfl⟩

theorem State.nametableOf_fourScreen {s : State} (h : s.mirroring = .fourScreen) (n : Addr) :
    s.nametableOf n = none := by
  simp [State.nametableOf, h, nametableMap]

/-! ## What the mapper reads and writes (R141, R142) -/

theorem State.mapperReadVram_of_chr (s : State) {n : Addr} (h : n.toNat ≤ 0x1FFF) :
    s.mapperReadVram n = some (s.chrByte (s.chrSlot * 0x2000 + n.toNat)) := by
  simp only [State.mapperReadVram, (isChrAddr_iff n).2 h, if_true, State.chrIndex, pageSize]

theorem State.mapperReadVram_of_nametable (s : State) {n : Addr} (h : 0x1FFF < n.toNat) :
    s.mapperReadVram n = (s.nametableOf n).map fun p => (s.nt p).read (nametableIndex n) := by
  simp [State.mapperReadVram, (isChrAddr_false_iff n).2 h]

/-- With a map, every VRAM address has a byte. -/
theorem State.mapperReadVram_isSome {s : State} (h : s.mirroring ≠ .fourScreen) (n : Addr) :
    ∃ v, s.mapperReadVram n = some v := by
  by_cases hn : n.toNat ≤ 0x1FFF
  · exact ⟨_, s.mapperReadVram_of_chr hn⟩
  · obtain ⟨p, hp⟩ := State.nametableOf_isSome_of_mapped h n
    exact ⟨_, by rw [s.mapperReadVram_of_nametable (by omega), hp, Option.map_some]⟩

theorem State.mapperWriteVram_of_chr (s : State) {n : Addr} (v : Byte) (h : n.toNat ≤ 0x1FFF) :
    s.mapperWriteVram n v = some (s.setChr (s.chrSlot * 0x2000 + n.toNat) v) := by
  simp only [State.mapperWriteVram, (isChrAddr_iff n).2 h, if_true, State.chrIndex, pageSize]

theorem State.mapperWriteVram_of_nametable (s : State) {n : Addr} (v : Byte) (h : 0x1FFF < n.toNat) :
    s.mapperWriteVram n v = (s.nametableOf n).map fun p => s.setNt p (nametableIndex n) v := by
  simp [State.mapperWriteVram, (isChrAddr_false_iff n).2 h]

/-- With a map, the mapper takes every VRAM write. -/
theorem State.mapperWriteVram_isSome {s : State} (h : s.mirroring ≠ .fourScreen) (n : Addr) (v : Byte) :
    ∃ t, s.mapperWriteVram n v = some t := by
  by_cases hn : n.toNat ≤ 0x1FFF
  · exact ⟨_, s.mapperWriteVram_of_chr v hn⟩
  · obtain ⟨p, hp⟩ := State.nametableOf_isSome_of_mapped h n
    exact ⟨_, by rw [s.mapperWriteVram_of_nametable v (by omega), hp, Option.map_some]⟩

/-- Everything a VRAM write can change. -/
theorem State.mapperWriteVram_changes {s t : State} {n : Addr} {v : Byte} (h : s.mapperWriteVram n v = some t) :
    ∃ nt0 nt1 chrRam, t = { s with nt0 := nt0, nt1 := nt1, chrRam := chrRam } := by
  rcases s.mapperWriteVram_cases n v with ⟨-, hw⟩ | ⟨p, -, -, hw⟩ | ⟨-, -, hw⟩ <;> rw [hw] at h
  · obtain rfl := Option.some.inj h
    unfold State.setChr
    split <;> exact ⟨_, _, _, rfl⟩
  · obtain rfl := Option.some.inj h
    unfold State.setNt
    split <;> exact ⟨_, _, _, rfl⟩
  · cases h

/-- A VRAM write looks neither at the phase nor at the notifications. -/
theorem State.mapperWriteVram_phase_notify (s : State) (n m : Addr) (v : Byte) (p : Phase) :
    State.mapperWriteVram n v (State.mapperNotify m { s with phase := p }) =
      (s.mapperWriteVram n v).map fun t => { t with phase := p, notifyLog := s.notifyLog ++ [m] } := by
  have htable : State.nametableOf (State.mapperNotify m { s with phase := p }) n = s.nametableOf n := rfl
  have hchr : State.setChr (State.chrIndex (State.mapperNotify m { s with phase := p }) n) v
      (State.mapperNotify m { s with phase := p }) =
      { s.setChr (s.chrIndex n) v with phase := p, notifyLog := s.notifyLog ++ [m] } := by
    cases h : s.cfg.chrWritable <;> simp [State.setChr, State.mapperNotify, State.chrIndex, h]
  have hnt : ∀ page, State.setNt page (nametableIndex n) v (State.mapperNotify m { s with phase := p }) =
      { s.setNt page (nametableIndex n) v with phase := p, notifyLog := s.notifyLog ++ [m] } := by
    intro page
    unfold State.setNt
    split <;> rfl
  simp only [State.mapperWriteVram, htable, hchr, hnt]
  split
  · rfl
  · cases s.nametableOf n <;> rfl

/-! ## The transactions -/

/-- READ_VRAM (R191) of an address with a byte. -/
theorem exec_readVram_of_byte {s : State} {a : Addr} {v : Byte} (kind : AccessKind) (hp : s.phase ≠ .failed)
    (hv : s.mapperReadVram (normVram a) = some v) :
    exec (.readVram a kind) s = .next { s with
      phase := .running
      notifyLog := s.notifyLog ++ [normVram a]
      trace := s.trace ++ [{ op := .read, space := .vram, addr := normVram a, value := v, kind := some kind }]
      results := s.results ++ [.byte v] } := by
  have hnotified : State.mapperReadVram (State.mapperNotify (normVram a) { s with phase := .running }) (normVram a) =
      some v := hv
  simp only [exec, execReadVram, State.transact_eq hp, hnotified]
  rfl

/-- DBG_READ_VRAM (R193) of an address with a byte. -/
theorem exec_dbgReadVram_of_byte {s : State} {a : Addr} {v : Byte} (hp : s.phase ≠ .failed)
    (hv : s.mapperReadVram (normVram a) = some v) :
    exec (.dbgReadVram a) s = .next { s with phase := .running, results := s.results ++ [.byte v] } := by
  have hrunning : State.mapperReadVram { s with phase := .running } (normVram a) = some v := hv
  simp only [exec, execDbgReadVram, State.transact_eq hp, hrunning]
  rfl

/-- WRITE_VRAM (R192) where the mapper takes the write. -/
theorem exec_writeVram_of_write {s t : State} {a : Addr} {v : Byte} (hp : s.phase ≠ .failed)
    (hw : s.mapperWriteVram (normVram a) v = some t) :
    exec (.writeVram a v) s = .next { t with
      phase := .running
      notifyLog := s.notifyLog ++ [normVram a]
      trace := s.trace ++ [{ op := .write, space := .vram, addr := normVram a, value := v, kind := none }]
      results := s.results ++ [.done] } := by
  obtain ⟨nt0, nt1, chrRam, rfl⟩ := State.mapperWriteVram_changes hw
  simp only [exec, execWriteVram, State.transact_eq hp, State.mapperWriteVram_phase_notify, hw, Option.map_some]
  rfl

/-- READ_VRAM of an address without a byte is refused (R112, R264). -/
theorem exec_readVram_of_noMap {s : State} {a : Addr} (kind : AccessKind) (hp : s.phase ≠ .failed)
    (hv : s.mapperReadVram (normVram a) = none) :
    exec (.readVram a kind) s = .next (State.refuse .unsupportedMirroring { s with phase := .running }) := by
  have hnotified : State.mapperReadVram (State.mapperNotify (normVram a) { s with phase := .running }) (normVram a) =
      none := hv
  simp only [exec, execReadVram, State.transact_eq hp, hnotified]

/-- DBG_READ_VRAM of an address without a byte is refused. -/
theorem exec_dbgReadVram_of_noMap {s : State} {a : Addr} (hp : s.phase ≠ .failed)
    (hv : s.mapperReadVram (normVram a) = none) :
    exec (.dbgReadVram a) s = .next (State.refuse .unsupportedMirroring { s with phase := .running }) := by
  have hrunning : State.mapperReadVram { s with phase := .running } (normVram a) = none := hv
  simp only [exec, execDbgReadVram, State.transact_eq hp, hrunning]

/-- WRITE_VRAM where the mapper takes no write is refused. -/
theorem exec_writeVram_of_noMap {s : State} {a : Addr} {v : Byte} (hp : s.phase ≠ .failed)
    (hw : s.mapperWriteVram (normVram a) v = none) :
    exec (.writeVram a v) s = .next (State.refuse .unsupportedMirroring { s with phase := .running }) := by
  simp only [exec, execWriteVram, State.transact_eq hp, State.mapperWriteVram_phase_notify, hw, Option.map_none]

/-! ## The statements -/

/-- Settles O28: the three transactions use the address through `normVram` alone. -/
theorem vramAddressesFold : Obligations.VramAddressesFold := by
  intro s a kind v
  have hmask : normVram a = normVram (a &&& 0x3FFF) := by
    apply BitVec.eq_of_toNat_eq
    simp only [normVram_toNat, vramMask_toNat, Nat.mod_mod]
  refine ⟨fun hlo hhi => ?_, ?_⟩
  · have hfold : normVram a = normVram (a - 0x1000) := by
      apply BitVec.eq_of_toNat_eq
      have hsub : (a - 0x1000).toNat = a.toNat - 0x1000 := BitVec.toNat_sub_of_le (by bv_omega)
      rw [normVram_toNat, normVram_toNat, if_neg (by omega), if_pos (by omega), hsub]
      omega
    simp only [exec, execReadVram, execWriteVram, execDbgReadVram, hfold, and_self]
  · simp only [exec, execReadVram, execWriteVram, execDbgReadVram, hmask, and_self]

/-- Settles O29: the mapper reads the byte of the selected page. -/
theorem readVramOfChr : Obligations.ReadVramOfChr := by
  intro s a kind hp ha
  have hnorm := normVram_of_lt (a := a) (by omega)
  have hbyte := s.mapperReadVram_of_chr (n := a &&& 0x3FFF) (by rwa [vramMask_toNat])
  rw [← hnorm] at hbyte
  have hexec := exec_readVram_of_byte kind hp hbyte
  rw [hnorm, vramMask_toNat] at hexec
  exact hexec

/-- Settles O30: the mode's nametable for the quadrant is the one the statement names. -/
theorem readVramOfNametable : Obligations.ReadVramOfNametable := by
  intro s a kind q off table hp hq hoff ha hmode
  obtain ⟨hnorm, hlow, hquadrant, hindex⟩ := normVram_of_quadrant hq hoff ha
  obtain ⟨p, hnames, htable⟩ :
      ∃ p, MirroringMode.Names s.mirroring q p ∧ table = if p = 0 then s.nt0 else s.nt1 := by
    rcases hmode with ⟨h, rfl⟩ | ⟨h, rfl⟩ | ⟨h, rfl⟩ | ⟨h, rfl⟩
    · exact ⟨q % 2, .inl ⟨h, rfl⟩, rfl⟩
    · exact ⟨q / 2, .inr (.inl ⟨h, rfl⟩), by simp [Nat.div_eq_zero_iff]⟩
    · exact ⟨0, .inr (.inr (.inl ⟨h, rfl⟩)), rfl⟩
    · exact ⟨1, .inr (.inr (.inr ⟨h, rfl⟩)), rfl⟩
  obtain ⟨page, rfl, hpage⟩ := State.nametableOf_of_names hquadrant hnames
  have hnt : s.nt page = table := by
    rw [htable]
    fin_cases page <;> rfl
  have hbyte : s.mapperReadVram (normVram a) = some (table.read off) := by
    rw [s.mapperReadVram_of_nametable hlow, hpage, Option.map_some, hnt, hindex]
  have hexec := exec_readVram_of_byte kind hp hbyte
  rw [hnorm] at hexec
  exact hexec

/-- Settles O31: the mapper's write is one CHR byte, which a CHR-ROM drops. -/
theorem writeVramOfChr : Obligations.WriteVramOfChr := by
  intro s a v hp ha hwf
  have hnorm := normVram_of_lt (a := a) (by omega)
  have hwrite := s.mapperWriteVram_of_chr (n := a &&& 0x3FFF) v (by rwa [vramMask_toNat])
  rw [← hnorm] at hwrite
  have hexec := exec_writeVram_of_write hp hwrite
  rw [hnorm, vramMask_toNat] at hexec
  cases hchr : s.cfg.chrWritable
  · refine ⟨s.chrRam, ?_, fun _ => rfl, by simp⟩
    rw [hexec]
    simp [State.setChr, hchr]
  · refine ⟨s.chrRam.write (s.chrSlot * 0x2000 + a.toNat % 0x4000) v, ?_, by simp,
      fun _ => ⟨?_, fun i hi => ?_⟩⟩
    · rw [hexec]
      simp [State.setChr, hchr]
    · rw [Memory.read_write hwf, if_pos rfl]
    · rw [Memory.read_write hwf, if_neg hi.symm]

/-- Settles O32: the mapper's write is one byte of the mode's nametable for the quadrant. -/
theorem writeVramOfNametable : Obligations.WriteVramOfNametable := by
  intro s a v q off p hp hq hoff hwf0 hwf1 ha hmode
  obtain ⟨hnorm, hlow, hquadrant, hindex⟩ := normVram_of_quadrant hq hoff ha
  obtain ⟨page, rfl, hpage⟩ := State.nametableOf_of_names hquadrant hmode
  have hwrite : s.mapperWriteVram (normVram a) v = some (s.setNt page off v) := by
    rw [s.mapperWriteVram_of_nametable v hlow, hpage, Option.map_some, hindex]
  have hexec := exec_writeVram_of_write hp hwrite
  rw [hnorm] at hexec
  refine ⟨(s.setNt page off v).nt0, (s.setNt page off v).nt1, ?_, fun i => ?_, fun i => ?_⟩
  · rw [hexec]
    unfold State.setNt
    split <;> rfl
  · rw [State.setNt_nt0]
    fin_cases page <;> simp [Memory.read_write hwf0, eq_comm]
  · rw [State.setNt_nt1]
    fin_cases page <;> simp [Memory.read_write hwf1, eq_comm]

/-- Settles O33: both answer with the byte the mapper reads. -/
theorem dbgReadVramReturnsWhatReadVramReturns : Obligations.DbgReadVramReturnsWhatReadVramReturns := by
  intro s a kind hp hmode
  obtain ⟨v, hv⟩ := State.mapperReadVram_isSome hmode (normVram a)
  exact ⟨_, v, exec_readVram_of_byte kind hp hv, rfl, exec_dbgReadVram_of_byte hp hv⟩

/-- Settles O34: four-screen mirroring has no map. -/
theorem fourScreenAccessIsRefused : Obligations.FourScreenAccessIsRefused := by
  intro s a kind v hp hmode ha i hi
  have hnorm : 0x1FFF < (normVram a).toNat := by
    rw [normVram_toNat]
    split <;> omega
  have hmap := State.nametableOf_fourScreen hmode (normVram a)
  have hread : s.mapperReadVram (normVram a) = none := by
    rw [s.mapperReadVram_of_nametable hnorm, hmap, Option.map_none]
  have hwrite : s.mapperWriteVram (normVram a) v = none := by
    rw [s.mapperWriteVram_of_nametable v hnorm, hmap, Option.map_none]
  simp only [List.mem_cons, List.not_mem_nil, or_false] at hi
  rcases hi with rfl | rfl | rfl
  · rw [exec_readVram_of_noMap kind hp hread, State.refuse_eq]
  · rw [exec_writeVram_of_noMap hp hwrite, State.refuse_eq]
  · rw [exec_dbgReadVram_of_noMap hp hread, State.refuse_eq]

/-- Settles O35: below 0x2000 the offset is that of the selected page. -/
theorem toAbsChrGivesTheOffset : Obligations.ToAbsChrGivesTheOffset := by
  intro s a hp
  simp only [exec, execToAbsChr, State.transact_eq hp, State.mapperAbsChr, isChrAddr_iff, vramMask_toNat,
    State.chrIndex]
  rfl

end Sys2Proof.Machine
end

section
/-! Lifecycle (spec/40_mapper_contract.md R108, spec/44_registry.md, spec/70_reset_and_hazards.md): CPU_CLOCK, the two
resets, REGISTER's conflicts and refusals, the reserved codes, and the power-on state. -/

namespace Sys2Proof.Machine

/-! ## CPU_CLOCK and RESET -/

/-- Settles O37: the mapper's hook does nothing (R145). -/
theorem cpuClockChangesNothing : Obligations.CpuClockChangesNothing := fun _ hp =>
  State.transact_eq hp _

/-- RESET (R291) is the console reset, with an empty result. -/
theorem exec_reset {s : State} (isSoft : Bool) (hp : s.phase ≠ .failed) :
    exec (.reset isSoft) s = .next ((State.consoleReset isSoft { s with phase := .running }).answer .done) := by
  simp only [exec, execReset, State.transact_eq hp]

/-- Settles O38: a soft reset is the mapper's power-on alone. -/
theorem softResetKeepsMemory : Obligations.SoftResetKeepsMemory := by
  intro s hp
  rw [exec_reset true hp, State.consoleReset, if_pos rfl, State.mapperReset, if_pos rfl, State.mapperPowerOn_eq]
  rfl

theorem initialRam_allZero {c : Config} (h : c.ramInit = .allZero) (draw : Nat) : initialRam c draw = [] := by
  simp only [initialRam, h]

/-- A hard reset draws the dispatcher's arrays, then CHR-RAM if there is one, then powers the mapper on (R291,
R136). -/
theorem exec_hardReset {s : State} (hp : s.phase ≠ .failed) :
    exec (.reset false) s = .next { s with
      phase := .running
      ram := initialRam s.cfg s.draws
      nt0 := Memory.drawn (s.draws + 1) nametableSize
      nt1 := Memory.drawn (s.draws + 2) nametableSize
      chrRam := if s.cfg.chrWritable then initialChrRam s.cfg (s.draws + 4) else s.chrRam
      openBus := Config.drawnByte (s.draws + 3) 0
      draws := if s.cfg.chrWritable then s.draws + 5 else s.draws + 4
      prgSlot := #v[0 % s.cfg.prgPageCount, 1 % s.cfg.prgPageCount, 2 % s.cfg.prgPageCount, 3 % s.cfg.prgPageCount]
      chrSlot := 0
      mirroring := .vertical
      results := s.results ++ [.done] } := by
  rw [exec_reset false hp]
  cases hchr : s.cfg.chrWritable <;>
    simp [State.consoleReset, State.mapperReset, State.mapperPowerOn_eq, State.answer, State.redrawChrRam,
      State.hardResetDispatcher, hchr]

/-- Settles O39: the draws of `exec_hardReset`; the all-zero policy lists no cell. -/
theorem hardResetRedrawsMemory : Obligations.HardResetRedrawsMemory := by
  intro s hp
  refine ⟨_, _, _, _, _, _, exec_hardReset hp, fun h i => ?allZero, fun h => ?chrRom⟩
  case allZero =>
    rw [initialRam_allZero h]
    rfl
  case chrRom => simp [h]

/-! ## REGISTER -/

/-- A read conflict (R221, R265): the reads below it are installed, and the error is raised. -/
theorem State.registerDevice_of_readConflict {s : State} {d : Descriptor} {a : Addr}
    (hread : conflictOf s.readTable d.readAddresses d.allowOverride = some a) :
    s.registerDevice d = { s with
      readTable := s.readTable.install (setBelow a d.readAddresses) d.id
      phase := .failed
      cfgFault := some { direction := .read, addr := a }
      results := s.results ++ [.configurationError { direction := .read, addr := a }] } := by
  simp only [State.registerDevice, hread, State.raiseConfigurationError, State.answer]

/-- A write conflict (R221, R266): all reads and the writes below it are installed, and the error is raised. -/
theorem State.registerDevice_of_writeConflict {s : State} {d : Descriptor} {a : Addr}
    (hread : conflictOf s.readTable d.readAddresses d.allowOverride = none)
    (hwrite : conflictOf s.writeTable d.writeAddresses d.allowOverride = some a) :
    s.registerDevice d = { s with
      readTable := s.readTable.install d.readAddresses d.id
      writeTable := s.writeTable.install (setBelow a d.writeAddresses) d.id
      phase := .failed
      cfgFault := some { direction := .write, addr := a }
      results := s.results ++ [.configurationError { direction := .write, addr := a }] } := by
  simp only [State.registerDevice, State.registerWrites, hread, hwrite, State.raiseConfigurationError, State.answer]

/-- Settles O41: `a` is the conflict (`conflictOf_some`), and `lookup_installBelow` says what stands in the table. -/
theorem readConflictRaisesConfigurationError : Obligations.ReadConflictRaisesConfigurationError := by
  intro s index a hp d hno hset hentry hfirst
  have hread : conflictOf s.readTable d.readAddresses d.allowOverride = some a :=
    hno ▸ conflictOf_some hset hentry hfirst
  have hexec := exec_register_of_setup index hp
  rw [State.registerDevice_of_readConflict hread] at hexec
  exact ⟨_, hexec, s.readTable.lookup_installBelow d.readAddresses d.id a⟩

/-- Settles O42: no read conflict (`conflictOf_none`), and `a` is the write conflict (`conflictOf_some`). -/
theorem writeConflictRaisesConfigurationError : Obligations.WriteConflictRaisesConfigurationError := by
  intro s index a hp d hno hfree hset hentry hfirst
  have hread : conflictOf s.readTable d.readAddresses d.allowOverride = none := conflictOf_none (.inr hfree)
  have hwrite : conflictOf s.writeTable d.writeAddresses d.allowOverride = some a :=
    hno ▸ conflictOf_some hset hentry hfirst
  have hexec := exec_register_of_setup index hp
  rw [State.registerDevice_of_writeConflict hread hwrite] at hexec
  exact ⟨_, _, hexec, s.readTable.lookup_install d.readAddresses d.id,
    s.writeTable.lookup_installBelow d.writeAddresses d.id a⟩

/-- In Running REGISTER is refused (R224). -/
theorem exec_register_of_running {s : State} (index : BitVec 8) (hp : s.phase = .running) :
    exec (.register index) s = .next (s.refuse .notInSetup) := by
  simp only [exec, execRegister, hp]

/-- Settles O43: the refusal of R224, as `refuse_eq` writes it out. -/
theorem lateRegisterIsRefused : Obligations.LateRegisterIsRefused := by
  intro s index hp
  rw [exec_register_of_running index hp, State.refuse_eq]

/-! ## The reserved codes -/

/-- Outside Failed the reserved codes are refused (R88). -/
theorem exec_reserved {s : State} {i : Instr} (hp : s.phase ≠ .failed) (hi : i = .reservedE ∨ i = .reservedF) :
    exec i s = .next (s.refuse .reservedOp) := by
  rcases hi with rfl | rfl
  · simp [exec, execReservedE, State.refuseReserved, hp]
  · simp [exec, execReservedF, State.refuseReserved, hp]

/-- Settles O44: the refusal of R88, as `refuse_eq` writes it out. -/
theorem reservedCodesAreRefused : Obligations.ReservedCodesAreRefused := by
  intro s hp i hi
  rw [exec_reserved hp (by simpa using hi), State.refuse_eq]

/-! ## Power-on -/

/-- Settles O57: the fields of `State.powerOn`; no entry is in an empty table and no cell in an empty memory. -/
theorem powerOnState : Obligations.PowerOnState := by
  refine ⟨rfl, rfl, fun c => ⟨rfl, fun _ => rfl, fun _ => rfl, rfl, rfl, rfl, rfl, rfl, fun k => ?slots, rfl, rfl,
    fun h i => ?ram, ?safe⟩⟩
  case slots => fin_cases k <;> rfl
  case ram =>
    have hram : (State.powerOn c).ram = [] := initialRam_allZero h 0
    rw [hram]
    rfl
  case safe => exact ⟨by simp [State.powerOn], rfl⟩

end Sys2Proof.Machine
end

section
/-! SNAPSHOT and RESTORE (spec/45_snapshot.md): the stream written out, what a well-formed stream loads, and the
round trip of one state's stream. -/

namespace Sys2Proof.Machine

/-! ## SNAPSHOT (R240, R241) -/

theorem le16_eq : le16 = fun n => [BitVec.ofNat 8 (n % 256), BitVec.ofNat 8 (n / 256)] := by
  funext n
  have h : BitVec.ofNat 8 n = BitVec.ofNat 8 (n % 256) := BitVec.eq_of_toNat_eq (by simp)
  rw [le16, h]

/-- The stream's mirroring byte of the two modes Mapper15 selects. -/
theorem mirroringByte_eq {m : MirroringMode} (h : m = .vertical ∨ m = .horizontal) :
    mirroringByte m = if m = .horizontal then 0x01 else 0x00 := by
  rcases h with rfl | rfl <;> rfl

/-- SNAPSHOT (R240) returns the stream and changes nothing else but the phase. -/
theorem exec_snapshot {s : State} (hp : s.phase ≠ .failed) :
    exec .snapshot s = .next { s with phase := .running, results := s.results ++ [.stream s.snapshotStream] } := by
  simp only [exec, execSnapshot, State.transact_eq hp, State.answer]
  rfl

/-- Settles O51: the arrays of `snapshotStream`, with the registers' bytes as the invariant gives them. -/
theorem snapshotReturnsTheStream : Obligations.SnapshotReturnsTheStream := by
  intro s hp hinv
  have hbyte := mirroringByte_eq hinv.mapper.mirroring
  simp only [exec_snapshot hp, State.snapshotStream, State.mapperSnapshot, hbyte, hinv.mapper.chrSlot, le16_eq,
    Memory.bytes]
  rfl

/-! ## RESTORE (R242, R243) -/

/-- RESTORE of a well-formed stream is the assignments of R242. -/
theorem exec_restore_of_wellFormed {s : State} {st : Stream} {rest : List Stream} (hp : s.phase ≠ .failed)
    (hs : s.streams = st :: rest) (hwf : Stream.wellFormed s.cfg st) :
    exec .restore s = .next ((State.loadStream st { s with phase := .running, streams := rest }).answer .done) := by
  simp only [exec, execRestore, State.transact_eq hp, State.takeStream, hs, if_pos hwf]

/-- RESTORE of a malformed stream is refused. -/
theorem exec_restore_of_malformed {s : State} {st : Stream} {rest : List Stream} (hp : s.phase ≠ .failed)
    (hs : s.streams = st :: rest) (hbad : ¬ Stream.wellFormed s.cfg st) :
    exec .restore s = .next (State.refuse .badSnapshot { s with phase := .running, streams := rest }) := by
  simp only [exec, execRestore, State.transact_eq hp, State.takeStream, hs, if_neg hbad]

/-- The stream of no arrays is malformed (log 5). -/
theorem not_wellFormed_nil (c : Config) : ¬ Stream.wellFormed c [] := by
  rintro ⟨hshape, -⟩
  cases hshape

/-- RESTORE with no stream handed over is refused. -/
theorem exec_restore_of_noStream {s : State} (hp : s.phase ≠ .failed) (hs : s.streams = []) :
    exec .restore s = .next (State.refuse .badSnapshot { s with phase := .running }) := by
  simp only [exec, execRestore, State.transact_eq hp, State.takeStream, hs, if_neg (not_wellFormed_nil s.cfg)]

/-- Settles O53: both are the refusal that `refuse_eq` writes out. -/
theorem malformedStreamIsRefused : Obligations.MalformedStreamIsRefused := by
  intro s hp
  refine ⟨fun st rest hs hbad => ?_, fun hs => ?_⟩
  · rw [exec_restore_of_malformed hp hs hbad, State.refuse_eq]
  · rw [exec_restore_of_noStream hp hs, State.refuse_eq]

/-! ## What a well-formed stream holds -/

/-- The bytes of an array made of a list of bytes are the list's. -/
theorem Memory.some_read_ofBytes {vs : List Byte} {size i : Nat} (hlen : vs.length = size) (hi : i < size) :
    some ((Memory.ofBytes vs).read i) = vs[i]? := by
  rw [Memory.read_ofBytes, List.getD_eq_getElem _ _ (by omega), List.getElem?_eq_getElem (by omega)]

/-- The lengths of the arrays of a well-formed stream. -/
theorem Stream.wellFormed_lengths {c : Config} {st : Stream} (h : Stream.wellFormed c st) :
    (Stream.array st .internalRam).length = 2048 ∧ (Stream.array st .nametable0).length = 1024 ∧
    (Stream.array st .nametable1).length = 1024 ∧ (Stream.array st .m15PrgSlot).length = 8 ∧
    (Stream.array st .m15ChrSlot).length = 2 ∧ (Stream.array st .m15Mirroring).length = 1 ∧
    (c.chrWritable = true → (Stream.array st .m15ChrRam).length = c.chrPageCount * 8192) := by
  refine ⟨Stream.array_length h rfl, Stream.array_length h rfl, Stream.array_length h rfl, Stream.array_length h rfl,
    Stream.array_length h rfl, Stream.array_length h rfl, fun hchr => Stream.array_length h ?_⟩
  simp only [streamShape, hchr]
  rfl

/-- The `k`-th 16-bit number of an array long enough, as its two bytes. -/
theorem fromLe16_bytes {vs : List Byte} {k : Nat} (h : 2 * k + 1 < vs.length) :
    ∃ low high : Byte, vs[2 * k]? = some low ∧ vs[2 * k + 1]? = some high ∧
      fromLe16 vs k = low.toNat + 256 * high.toNat := by
  refine ⟨_, _, List.getElem?_eq_getElem (by omega), List.getElem?_eq_getElem h, ?_⟩
  rw [fromLe16, List.getD_eq_getElem _ _ (by omega), List.getD_eq_getElem _ _ h]

/-- Settles O52: the assignments of R242, each array read back at its length. -/
theorem restoreLoadsTheStream : Obligations.RestoreLoadsTheStream := by
  intro s st rest hp hs hwf
  obtain ⟨hram, hnt0, hnt1, hprg, -, hmirroring, hchr⟩ := Stream.wellFormed_lengths hwf
  have hchrSlot : Stream.chrSlot st = 0 := hwf.2.2.1
  have hmode : mirroringOfByte (Stream.mirroring st) =
      if (Stream.array st .m15Mirroring).head? = some 0x01 then .horizontal else .vertical := by
    obtain ⟨v, hv⟩ := List.length_eq_one_iff.1 hmirroring
    simp [mirroringOfByte, Stream.mirroring, hv]
  have hslot : ∀ k, k < 4 → ∃ low high : Byte, (Stream.array st .m15PrgSlot)[2 * k]? = some low ∧
      (Stream.array st .m15PrgSlot)[2 * k + 1]? = some high ∧ Stream.prgSlot st k = low.toNat + 256 * high.toNat :=
    fun k hk => fromLe16_bytes (by omega)
  have hexec := exec_restore_of_wellFormed hp hs hwf
  simp only [State.loadStream, State.answer, hchrSlot, hmode] at hexec
  refine ⟨_, _, _, _, _, hexec, fun i hi => Memory.some_read_ofBytes hram hi,
    fun i hi => Memory.some_read_ofBytes hnt0 hi, fun i hi => Memory.some_read_ofBytes hnt1 hi, fun k => ?slots,
    fun h => ?chrRom, fun h i hi => ?chrRam⟩
  case slots => fin_cases k <;> exact hslot _ (by decide)
  case chrRom => simp [h]
  case chrRam =>
    rw [if_pos h]
    exact Memory.some_read_ofBytes (hchr h) hi

/-! ## The round trip (R244) -/

/-- The 16-bit numbers of the four slots' bytes are the slots. -/
theorem fromLe16_slots {slots : Vector Nat 4} (h : ∀ k : Fin 4, slots[k] < 65536) (k : Fin 4) :
    fromLe16 (slots.toList.flatMap le16) k.val = slots[k] := by
  have hk := h k
  rw [flatMap_le16]
  fin_cases k <;> exact le16_value hk

/-- The mirroring byte names the mode it was made of. -/
theorem mirroringOfByte_mirroringByte {m : MirroringMode} (h : m = .vertical ∨ m = .horizontal) :
    (mirroringByte m = 0x00 ∨ mirroringByte m = 0x01) ∧ mirroringOfByte (mirroringByte m) = m := by
  rcases h with rfl | rfl
  · exact ⟨.inl rfl, rfl⟩
  · exact ⟨.inr rfl, rfl⟩

/-- The registers a state's stream names are the state's. -/
theorem State.snapshotStream_registers {s : State} (h : s.MapperInv) :
    (∀ k : Fin 4, Stream.prgSlot s.snapshotStream k.val = s.prgSlot[k]) ∧
    Stream.chrSlot s.snapshotStream = s.chrSlot ∧
    Stream.mirroring s.snapshotStream = mirroringByte s.mirroring := by
  obtain ⟨-, -, -, hprg, hchr, hmirroring, -⟩ := s.snapshotStream_array
  refine ⟨fun k => ?prg, ?chr, ?mirroring⟩
  case prg => rw [Stream.prgSlot, hprg, fromLe16_slots fun k => (h.prgSlot k).2]
  case chr =>
    rw [Stream.chrSlot, hchr, h.chrSlot]
    rfl
  case mirroring =>
    rw [Stream.mirroring, hmirroring]
    rfl

/-- A state's own stream is well-formed. -/
theorem State.snapshotStream_wellFormed {s : State} (h : s.MapperInv) : Stream.wellFormed s.cfg s.snapshotStream := by
  obtain ⟨hprg, hchr, hmirroring⟩ := State.snapshotStream_registers h
  refine ⟨?shape, fun k hk => ?slots, hchr.trans h.chrSlot, ?mirroring⟩
  case shape =>
    have hslots : (s.prgSlot.toList.flatMap le16).length = 8 := by
      rw [flatMap_le16]
      rfl
    simp only [State.snapshotStream, State.mapperSnapshot, streamShape]
    cases s.cfg.chrWritable <;> simp [hslots, le16]
  case slots =>
    have hk4 : k < 4 := by simp at hk; omega
    exact hprg ⟨k, hk4⟩ ▸ (h.prgSlot ⟨k, hk4⟩).1
  case mirroring =>
    rw [hmirroring]
    exact (mirroringOfByte_mirroringByte h.mirroring).1

/-- Loading a state's stream into another of the same configuration gives it the state's memories and registers. -/
theorem State.loadStream_snapshotStream {s u : State} (hs : s.Inv) (hcfg : u.cfg = s.cfg)
    (hrom : u.cfg.chrWritable = false → u.chrRam = []) :
    State.loadStream s.snapshotStream u = { u with
      ram := s.ram
      nt0 := s.nt0
      nt1 := s.nt1
      prgSlot := s.prgSlot
      chrSlot := s.chrSlot
      mirroring := s.mirroring
      chrRam := s.chrRam } := by
  obtain ⟨hram, hnt0, hnt1, -, -, -, hchrRam⟩ := s.snapshotStream_array
  obtain ⟨hprg, hchr, hmirroring⟩ := State.snapshotStream_registers hs.mapper
  have hslots : #v[Stream.prgSlot s.snapshotStream 0, Stream.prgSlot s.snapshotStream 1,
      Stream.prgSlot s.snapshotStream 2, Stream.prgSlot s.snapshotStream 3] = s.prgSlot := by
    ext k hk
    have hslot := hprg ⟨k, hk⟩
    interval_cases k <;> exact hslot
  have hchrLoaded : (if u.cfg.chrWritable then Memory.ofBytes (Stream.array s.snapshotStream .m15ChrRam)
      else u.chrRam) = s.chrRam := by
    rw [hcfg]
    split
    · next h => rw [hchrRam h, Memory.ofBytes_bytes hs.memory.chrRam.1 hs.memory.chrRam.2]
    · next h =>
      have hfalse := eq_false_of_ne_true h
      rw [hs.memory.chrRom hfalse, hrom (hcfg ▸ hfalse)]
  simp only [State.loadStream, hslots, hchr, hmirroring, (mirroringOfByte_mirroringByte hs.mapper.mirroring).2,
    hchrLoaded, hram, hnt0, hnt1, Memory.ofBytes_bytes hs.memory.ram.1 hs.memory.ram.2,
    Memory.ofBytes_bytes hs.memory.nt0.1 hs.memory.nt0.2, Memory.ofBytes_bytes hs.memory.nt1.1 hs.memory.nt1.2]

/-- Settles O54: the stream is well-formed, and loading it gives back the state's memories and registers. -/
theorem restoreReproducesTheSnapshot : Obligations.RestoreReproducesTheSnapshot := by
  intro s u rest hs hu hcfg hp hstreams
  have hwf : Stream.wellFormed u.cfg s.snapshotStream := hcfg ▸ State.snapshotStream_wellFormed hs.mapper
  rw [exec_restore_of_wellFormed hp hstreams hwf,
    State.loadStream_snapshotStream (u := { u with phase := .running, streams := rest }) hs hcfg hu.memory.chrRom]
  rfl

end Sys2Proof.Machine
end

section
/-! The invariant (spec/10_state.md R23-R34, spec/41_mapper15.md R147, spec/60_exceptions.md R264): what it reads of
the state, how each part of the state may change under it, and that every instruction keeps it. -/

namespace Sys2Proof.Machine

/-! ## What the invariant reads -/

/-- The state without what the invariant does not look at: the latch, the logs, the queues, the answers and the
draws. -/
def State.core (s : State) : State :=
  { s.withoutLatch with pending := [], streams := [], answers := [], draws := 0 }

theorem State.inv_core_iff (s : State) : s.core.Inv ↔ s.Inv :=
  ⟨fun h => ⟨{ h.memory with }, { h.mapper with }, { h.tables with }, { h.record with }⟩,
    fun h => ⟨{ h.memory with }, { h.mapper with }, { h.tables with }, { h.record with }⟩⟩

/-- The invariant moves between states that agree in all it looks at. -/
theorem State.Inv.of_core {s t : State} (h : s.Inv) (hcore : t.core = s.core) : t.Inv := by
  rw [← State.inv_core_iff, hcore, State.inv_core_iff]
  exact h

/-! ## How the state may change under it -/

/-- Outside Failed the phase step keeps the invariant: there is no fault to record. -/
theorem State.Inv.withPhaseRunning {s : State} (h : s.Inv) (hp : s.phase ≠ .failed) :
    State.Inv { s with phase := .running } where
  memory := { h.memory with }
  mapper := { h.mapper with }
  tables := { h.tables with }
  record := { h.record with cfgFault := ⟨fun hfault => absurd (h.record.cfgFault.1 hfault) hp, nofun⟩ }

/-- An array in canonical form and in size. -/
abbrev Memory.Fits (m : Memory) (size : Nat) : Prop := m.wf ∧ m.within size

/-- Memories may become any canonical ones of their sizes. -/
theorem State.Inv.withMemories {s : State} (h : s.Inv) {ram nt0 nt1 chrRam : Memory} (hram : ram.Fits ramSize)
    (hnt0 : nt0.Fits nametableSize) (hnt1 : nt1.Fits nametableSize) (hchr : chrRam.Fits s.cfg.chrSize)
    (hrom : s.cfg.chrWritable = false → chrRam = []) :
    State.Inv { s with ram := ram, nt0 := nt0, nt1 := nt1, chrRam := chrRam } where
  memory := { ram := hram, nt0 := hnt0, nt1 := hnt1, chrRam := hchr, chrRom := hrom }
  mapper := { h.mapper with }
  tables := { h.tables with }
  record := { h.record with }

/-- What R31 and the 16 bits of R241 allow the PRG slots to hold. -/
abbrev SlotsFit (c : Config) (slots : Vector Nat 4) : Prop :=
  ∀ k : Fin 4, slots[k] < c.prgPageCount ∧ slots[k] < 65536

/-- The mapper's registers may become any pages of the image, CHR page 0 and any mode Mapper15 selects. -/
theorem State.Inv.withRegisters {s : State} (h : s.Inv) {slots : Vector Nat 4} {mode : MirroringMode}
    (hslots : SlotsFit s.cfg slots) (hmode : mode = .vertical ∨ mode = .horizontal) :
    State.Inv { s with prgSlot := slots, chrSlot := 0, mirroring := mode } where
  memory := { h.memory with }
  mapper := { prgSlot := hslots, chrSlot := rfl, mirroring := hmode }
  tables := { h.tables with }
  record := { h.record with }

/-- A handler table in which the mapper answers in its range alone. -/
def HandlerTable.MapperInRange (t : HandlerTable) : Prop :=
  ∀ a, t.lookup a = some .mapper → isMapperAddr a = true

/-- Tables in which the mapper keeps to its range keep the invariant. -/
theorem State.Inv.withTables {s : State} (h : s.Inv) {readTable writeTable : HandlerTable}
    (hread : readTable.MapperInRange) (hwrite : writeTable.MapperInRange) :
    State.Inv { s with readTable := readTable, writeTable := writeTable } where
  memory := { h.memory with }
  mapper := { h.mapper with }
  tables := { mapperRead := hread, mapperWrite := hwrite }
  record := { h.record with }

/-- A refusal Mapper15 can raise keeps the invariant. -/
theorem State.Inv.refuse {s : State} (h : s.Inv) {r : RefuseReason} (hslot : r ≠ .badSlot)
    (hmap : r ≠ .unsupportedMirroring) : (s.refuse r).Inv := by
  have hfirst : ∀ bad, s.refused ≠ some bad → r ≠ bad → (s.refuse r).refused ≠ some bad := by
    intro bad hs hr
    cases hrecord : s.refused with
    | none => simpa [hrecord] using hr
    | some r' => simpa [hrecord] using hs
  exact ⟨{ h.memory with }, { h.mapper with }, { h.tables with },
    { cfgFault := h.record.cfgFault
      badSlot := hfirst _ h.record.badSlot hslot
      unsupportedMirroring := hfirst _ h.record.unsupportedMirroring hmap }⟩

/-- ConfigurationError records its fault and enters Failed together (R265). -/
theorem State.Inv.raiseConfigurationError {s : State} (h : s.Inv) (f : ConfigFault) :
    (s.raiseConfigurationError f).Inv where
  memory := { h.memory with }
  mapper := { h.mapper with }
  tables := { h.tables with }
  record := { h.record with cfgFault := ⟨fun _ => rfl, fun _ => rfl⟩ }

/-! ## The operations -/

/-- A write inside the array keeps it canonical and in size. -/
theorem Memory.Fits.write {m : Memory} {size i : Nat} (h : m.Fits size) (v : Byte) (hi : i < size) :
    Memory.Fits (m.write i v) size :=
  ⟨Memory.wf_write h.1 i v, Memory.within_write v h.2 hi⟩

theorem State.Inv.setRam {s : State} (h : s.Inv) {i : Nat} (v : Byte) (hi : i < ramSize) : (s.setRam i v).Inv :=
  h.withMemories (Memory.Fits.write h.memory.ram v hi) h.memory.nt0 h.memory.nt1 h.memory.chrRam h.memory.chrRom

theorem State.Inv.setNt {s : State} (h : s.Inv) (p : Fin 2) {i : Nat} (v : Byte) (hi : i < nametableSize) :
    (s.setNt p i v).Inv := by
  unfold State.setNt
  split
  · exact h.withMemories h.memory.ram (Memory.Fits.write h.memory.nt0 v hi) h.memory.nt1 h.memory.chrRam
      h.memory.chrRom
  · exact h.withMemories h.memory.ram h.memory.nt0 (Memory.Fits.write h.memory.nt1 v hi) h.memory.chrRam
      h.memory.chrRom

theorem State.Inv.setChr {s : State} (h : s.Inv) {i : Nat} (v : Byte) (hi : i < s.cfg.chrSize) :
    (s.setChr i v).Inv := by
  unfold State.setChr
  split
  · next hram =>
    exact h.withMemories h.memory.ram h.memory.nt0 h.memory.nt1 (Memory.Fits.write h.memory.chrRam v hi)
      fun hrom => absurd hram (by simp [hrom])
  · exact h

/-- A CHR address of page 0 lies inside the CHR memory (R34). -/
theorem chrIndex_lt {s : State} (h : s.MapperInv) {n : Addr} (hn : isChrAddr n = true) :
    s.chrIndex n < s.cfg.chrSize := by
  have hle := (isChrAddr_iff n).1 hn
  simp only [State.chrIndex, h.chrSlot, Config.chrSize, Config.chrPageCount, pageSize]
  omega

theorem mirroringOf_selected (v : Byte) : mirroringOf v = .vertical ∨ mirroringOf v = .horizontal := by
  unfold mirroringOf
  split <;> simp

/-- No command asks for a page the snapshot's 16 bits cannot hold (R139, log 14). -/
theorem commandSlots_lt_65536 (c : Config) (a : Addr) (v : Byte) (k : Fin 4) : (commandSlots c a v)[k] < 65536 := by
  have hbank := (v &&& c.prgBankFieldMask).isLt
  have hsub := v.isLt
  have hb : (v &&& c.prgBankFieldMask).toNat * 2 ||| v.toNat / 128 < 2 ^ 9 := Nat.or_lt_two_pow (by omega) (by omega)
  have hmode : a.toNat % 4 = 0 ∨ (a.toNat % 4 = 1 ∨ a.toNat % 4 = 3) ∨ a.toNat % 4 = 2 := by omega
  rcases hmode with h | h | h
  · rw [commandSlots_mode0 c v h]
    exact (Nat.mod_le _ _).trans_lt (Nat.xor_lt_two_pow (n := 16) (by omega) (by omega))
  · have := commandSlots_mode13_le c h hb.le k
    omega
  · rw [commandSlots_mode2 c v h]
    exact (Nat.mod_le _ _).trans_lt (by omega)

theorem State.Inv.writeRegister {s : State} (h : s.Inv) (a : Addr) (v : Byte) : (s.writeRegister a v).Inv := by
  rw [State.writeRegister_eq]
  have hregisters := h.withRegisters (slots := commandSlots s.cfg a v)
    (fun k => ⟨commandSlots_lt s.cfg a v k, commandSlots_lt_65536 s.cfg a v k⟩) (mirroringOf_selected v)
  rwa [← h.mapper.chrSlot] at hregisters

/-- The power-on banking holds pages of the image (R130). -/
theorem powerOnSlots_fit (c : Config) :
    SlotsFit c #v[0 % c.prgPageCount, 1 % c.prgPageCount, 2 % c.prgPageCount, 3 % c.prgPageCount] := by
  have hpage : ∀ p < 65536, p % c.prgPageCount < c.prgPageCount ∧ p % c.prgPageCount < 65536 := fun p hp =>
    ⟨lt_prgPageCount c p, (Nat.mod_le _ _).trans_lt hp⟩
  intro k
  fin_cases k
  · exact hpage 0 (by decide)
  · exact hpage 1 (by decide)
  · exact hpage 2 (by decide)
  · exact hpage 3 (by decide)

theorem State.Inv.routeWrite {s : State} (h : s.Inv) (a : Addr) (v : Byte) :
    (s.routeWrite (State.writeRegister a v) a v).Inv := by
  rcases s.routeWrite_cases (State.writeRegister a v) a v with
      ⟨-, he⟩ | ⟨-, -, he⟩ | ⟨d, -, -, he⟩ | ⟨-, -, he⟩ <;>
    rw [he]
  · exact h.setRam v (ramIndex_lt a)
  · exact h.writeRegister a v
  · exact h.of_core rfl
  · exact h

theorem State.Inv.mapperWriteVram {s t : State} (h : s.Inv) {n : Addr} {v : Byte}
    (hw : s.mapperWriteVram n v = some t) : t.Inv := by
  rcases s.mapperWriteVram_cases n v with ⟨hchr, he⟩ | ⟨p, -, -, he⟩ | ⟨-, -, he⟩ <;> rw [he] at hw
  · obtain rfl := Option.some.inj hw
    exact h.setChr v (chrIndex_lt h.mapper hchr)
  · obtain rfl := Option.some.inj hw
    exact h.setNt p v (nametableIndex_lt n)
  · cases hw

theorem Memory.fits_ofBytes {vs : List Byte} {size : Nat} (hlen : vs.length = size) :
    Memory.Fits (Memory.ofBytes vs) size :=
  ⟨Memory.wf_ofBytes vs, hlen ▸ Memory.within_ofBytes vs⟩

theorem fromLe16_lt (vs : List Byte) (k : Nat) : fromLe16 vs k < 65536 := by
  have hlow := (vs.getD (2 * k) 0).isLt
  have hhigh := (vs.getD (2 * k + 1) 0).isLt
  rw [fromLe16]
  omega

/-- A well-formed stream's arrays and registers meet the invariant (R243). -/
theorem State.Inv.loadStream {s : State} (h : s.Inv) {st : Stream} (hwf : Stream.wellFormed s.cfg st) :
    (s.loadStream st).Inv := by
  obtain ⟨hram, hnt0, hnt1, -, -, -, hchr⟩ := Stream.wellFormed_lengths hwf
  obtain ⟨-, hslots, hchrSlot, -⟩ := hwf
  have hmode : ∀ v, mirroringOfByte v = .vertical ∨ mirroringOfByte v = .horizontal := by
    intro v
    unfold mirroringOfByte
    split <;> simp
  have hslot : ∀ k, k ∈ [0, 1, 2, 3] → Stream.prgSlot st k < s.cfg.prgPageCount ∧ Stream.prgSlot st k < 65536 :=
    fun k hk => ⟨hslots k hk, fromLe16_lt _ k⟩
  have hmemories := h.withMemories (Memory.fits_ofBytes hram) (Memory.fits_ofBytes hnt0) (Memory.fits_ofBytes hnt1)
    (chrRam := if s.cfg.chrWritable then Memory.ofBytes (Stream.array st .m15ChrRam) else s.chrRam)
    (by
      split
      · next hw => exact Memory.fits_ofBytes (hchr hw)
      · exact h.memory.chrRam)
    (fun hrom => by simp [hrom, h.memory.chrRom hrom])
  simp only [State.loadStream, hchrSlot]
  refine hmemories.withRegisters (fun k => ?_) (hmode _)
  fin_cases k <;> exact hslot _ (by decide)

/-! ## Memories at power-on and hard reset -/

theorem Memory.fits_drawn (draw size : Nat) : Memory.Fits (Memory.drawn draw size) size :=
  ⟨Memory.wf_drawn draw size, Memory.within_drawn draw size⟩

theorem Memory.fits_nil (size : Nat) : Memory.Fits [] size := ⟨Memory.wf_nil, by simp⟩

theorem initialRam_fits (c : Config) (draw : Nat) : Memory.Fits (initialRam c draw) ramSize := by
  unfold initialRam
  split
  · exact Memory.fits_nil _
  · exact Memory.fits_drawn _ _

theorem initialChrRam_fits (c : Config) (draw : Nat) : Memory.Fits (initialChrRam c draw) c.chrSize := by
  unfold initialChrRam
  split
  · exact Memory.fits_drawn _ _
  · exact Memory.fits_nil _

theorem initialChrRam_of_rom {c : Config} (h : c.chrWritable = false) (draw : Nat) : initialChrRam c draw = [] := by
  simp [initialChrRam, h]

/-- The power-on state of every configuration meets the invariant. -/
theorem State.powerOn_inv (c : Config) : (State.powerOn c).Inv where
  memory :=
    { ram := initialRam_fits c 0
      nt0 := Memory.fits_drawn 1 nametableSize
      nt1 := Memory.fits_drawn 2 nametableSize
      chrRam := initialChrRam_fits c 4
      chrRom := fun h => initialChrRam_of_rom h 4 }
  mapper := { prgSlot := powerOnSlots_fit c, chrSlot := rfl, mirroring := .inl rfl }
  tables := { mapperRead := nofun, mapperWrite := nofun }
  record := { cfgFault := ⟨nofun, nofun⟩, badSlot := nofun, unsupportedMirroring := nofun }

/-- Settles O59: reset is the power-on state of the host's configuration. -/
theorem resetMeetsTheInvariant : Obligations.ResetMeetsTheInvariant := State.powerOn_inv Config.machine

/-! ## Every instruction keeps it -/

/-- Installing a descriptor's device, or a part of its addresses, leaves the mapper in its range: R147's descriptor
is the only one that names it. -/
theorem HandlerTable.MapperInRange.install {t : HandlerTable} (h : t.MapperInRange) {set : List AddrRange}
    {id : HandlerId} (hset : id = .mapper → ∀ a, setCovers set a = true → isMapperAddr a = true) :
    (t.install set id).MapperInRange := by
  intro a ha
  rw [HandlerTable.lookup_install] at ha
  split at ha
  · next hcovers => exact hset (Option.some.inj ha) a hcovers
  · exact h a ha

/-- REGISTER keeps the invariant, with an error or without. -/
theorem State.Inv.registerDevice {s : State} (h : s.Inv) (index : BitVec 8) :
    (s.registerDevice (s.descriptorAt index)).Inv := by
  obtain ⟨d, hd⟩ : ∃ d, s.descriptorAt index = d := ⟨_, rfl⟩
  have hmapper : d.id = .mapper → d = mapperDescriptor := fun hid => hd ▸ State.descriptorAt_mapper (hd ▸ hid)
  have hreads : d.id = .mapper → ∀ a, setCovers d.readAddresses a = true → isMapperAddr a = true := by
    intro hid a ha
    rwa [hmapper hid, mapperDescriptor, setCovers_mapperRange] at ha
  have hwrites : d.id = .mapper → ∀ a, setCovers d.writeAddresses a = true → isMapperAddr a = true := by
    intro hid a ha
    rwa [hmapper hid, mapperDescriptor, setCovers_mapperRange] at ha
  have hread : s.readTable.MapperInRange := h.tables.mapperRead
  have hwrite : s.writeTable.MapperInRange := h.tables.mapperWrite
  rw [hd, State.registerDevice]
  split
  · next limit _ =>
    have hbelow := hread.install (set := setBelow limit d.readAddresses) fun hid a ha =>
      hreads hid a ((setCovers_setBelow limit _ a).1 ha).1
    exact (h.withTables hbelow hwrite).raiseConfigurationError _
  · rw [State.registerWrites]
    split
    · next limit _ =>
      have hbelow := hwrite.install (set := setBelow limit d.writeAddresses) fun hid a ha =>
        hwrites hid a ((setCovers_setBelow limit _ a).1 ha).1
      exact (h.withTables (hread.install hreads) hbelow).raiseConfigurationError _
    · exact (h.withTables (hread.install hreads) (hwrite.install hwrites)).of_core rfl

/-- A WRITE keeps the invariant, and with it the Mapper15 rows (log 10). -/
theorem exec_write_inv {s : State} (h : s.Inv) (hp : s.phase ≠ .failed) (a : Addr) (v : Byte) :
    ∃ t, exec (.write a v) s = .next t ∧ t.Inv := by
  have hrouted := h.routeWrite a v
  obtain ⟨ram, calls, slots, mode, hr⟩ := s.routeWrite_shape a v
  rw [hr] at hrouted
  exact ⟨_, exec_write_of_route hp hr, (hrouted.withPhaseRunning hp).of_core rfl⟩

/-- A hard reset keeps the invariant: every draw is canonical and in size. -/
theorem exec_hardReset_inv {s : State} (h : s.Inv) (hp : s.phase ≠ .failed) :
    ∃ t, exec (.reset false) s = .next t ∧ t.Inv := by
  have hchr : Memory.Fits (if s.cfg.chrWritable then initialChrRam s.cfg (s.draws + 4) else s.chrRam)
      s.cfg.chrSize := by
    split
    · exact initialChrRam_fits s.cfg _
    · exact h.memory.chrRam
  have hmemories := (h.withPhaseRunning hp).withMemories (initialRam_fits s.cfg s.draws)
    (Memory.fits_drawn (s.draws + 1) nametableSize) (Memory.fits_drawn (s.draws + 2) nametableSize) hchr
    (fun hrom : s.cfg.chrWritable = false => by simp [hrom, h.memory.chrRom hrom])
  exact ⟨_, exec_hardReset hp, (hmemories.withRegisters (powerOnSlots_fit s.cfg) (.inl rfl)).of_core rfl⟩

/-- RESTORE keeps the invariant: a stream that is loaded is well-formed. -/
theorem exec_restore_inv {s : State} (h : s.Inv) (hp : s.phase ≠ .failed) :
    ∃ t, exec .restore s = .next t ∧ t.Inv := by
  have hrun := h.withPhaseRunning hp
  cases hs : s.streams with
  | nil => exact ⟨_, exec_restore_of_noStream hp hs, hrun.refuse (by decide) (by decide)⟩
  | cons st rest =>
    have htaken := hrun.of_core (t := { s with phase := .running, streams := rest }) rfl
    by_cases hwf : Stream.wellFormed s.cfg st
    · exact ⟨_, exec_restore_of_wellFormed hp hs hwf, (htaken.loadStream hwf).of_core rfl⟩
    · exact ⟨_, exec_restore_of_malformed hp hs hwf, htaken.refuse (by decide) (by decide)⟩

/-- Outside Failed every instruction completes and keeps the invariant. -/
theorem exec_inv {s : State} (h : s.Inv) (hp : s.phase ≠ .failed) (i : Instr) :
    ∃ t, exec i s = .next t ∧ t.Inv := by
  have hrun := h.withPhaseRunning hp
  have hmode : s.mirroring ≠ .fourScreen := by
    rcases h.mapper.mirroring with hm | hm <;> simp [hm]
  cases i with
  | read a kind =>
    obtain ⟨raw, calls, answers, draws, hr⟩ := s.cpuRoute_shape a
    exact ⟨_, exec_read_of_route kind hp hr, hrun.of_core rfl⟩
  | dbgRead a =>
    obtain ⟨raw, calls, answers, draws, hr⟩ := s.cpuRoute_shape a
    exact ⟨_, exec_dbgRead_of_route hp hr, hrun.of_core rfl⟩
  | write a v => exact exec_write_inv h hp a v
  | m15Mode0 mid v => exact (mapper15RowsAreWrites s mid v).1 ▸ exec_write_inv h hp _ v
  | m15Mode1 mid v => exact (mapper15RowsAreWrites s mid v).2.1 ▸ exec_write_inv h hp _ v
  | m15Mode2 mid v => exact (mapper15RowsAreWrites s mid v).2.2.1 ▸ exec_write_inv h hp _ v
  | m15Mode3 mid v => exact (mapper15RowsAreWrites s mid v).2.2.2 ▸ exec_write_inv h hp _ v
  | dbgWrite a v =>
    obtain ⟨u, hdbg, -, hwrite⟩ := dbgWriteIsWriteWithoutTrace s a v hp
    obtain ⟨w, hw, hinv⟩ := exec_write_inv h hp a v
    obtain rfl := Host.Outcome.next.inj (hwrite.symm.trans hw)
    exact ⟨u, hdbg, hinv.of_core rfl⟩
  | readVram a kind =>
    obtain ⟨v, hv⟩ := State.mapperReadVram_isSome hmode (normVram a)
    exact ⟨_, exec_readVram_of_byte kind hp hv, hrun.of_core rfl⟩
  | dbgReadVram a =>
    obtain ⟨v, hv⟩ := State.mapperReadVram_isSome hmode (normVram a)
    exact ⟨_, exec_dbgReadVram_of_byte hp hv, hrun.of_core rfl⟩
  | writeVram a v =>
    obtain ⟨u, hw⟩ := State.mapperWriteVram_isSome hmode (normVram a) v
    have hu := h.mapperWriteVram hw
    have hexec := exec_writeVram_of_write hp hw
    obtain ⟨nt0, nt1, chrRam, rfl⟩ := State.mapperWriteVram_changes hw
    exact ⟨_, hexec, (hu.withPhaseRunning hp).of_core rfl⟩
  | getOpenBus mask => exact ⟨_, getOpenBusMasksTheLatch s mask hp, hrun.of_core rfl⟩
  | toAbsChr a => exact ⟨_, toAbsChrGivesTheOffset s a hp, hrun.of_core rfl⟩
  | cpuClock => exact ⟨_, cpuClockChangesNothing s hp, hrun.of_core rfl⟩
  | snapshot => exact ⟨_, exec_snapshot hp, hrun.of_core rfl⟩
  | reset isSoft =>
    cases isSoft with
    | true =>
      exact ⟨_, softResetKeepsMemory s hp, (hrun.withRegisters (powerOnSlots_fit s.cfg) (.inl rfl)).of_core rfl⟩
    | false => exact exec_hardReset_inv h hp
  | register index =>
    cases hphase : s.phase with
    | failed => exact absurd hphase hp
    | running => exact ⟨_, exec_register_of_running index hphase, h.refuse (by decide) (by decide)⟩
    | setup => exact ⟨_, exec_register_of_setup index hphase, h.registerDevice index⟩
  | restore => exact exec_restore_inv h hp
  | reservedE => exact ⟨_, exec_reserved hp (.inl rfl), h.refuse (by decide) (by decide)⟩
  | reservedF => exact ⟨_, exec_reserved hp (.inr rfl), h.refuse (by decide) (by decide)⟩

/-- Settles O60: an idle step changes nothing, and taking a word changes the queue alone. -/
theorem everyStepKeepsTheInvariant : Obligations.EveryStepKeepsTheInvariant := by
  intro s t h ht
  rcases step_next ht with ⟨-, -, rfl⟩ | ⟨w, rest, -, hexec⟩
  · exact h
  · have htaken := h.of_core (t := { s with pending := rest }) rfl
    exact exec_next_property (exec_inv htaken (exec_next_phase hexec) (decode w)) hexec

end Sys2Proof.Machine
end

section
/-! What an instruction can do to a state (spec/10_state.md R21-R29), said once for each group: the CPU bus, the
VRAM bus, the other transactions, REGISTER and the reserved codes. The lifecycle statements are readings of it. -/

namespace Sys2Proof

/-- The transactions of the CPU bus, the Mapper15 rows among them. -/
def Instr.OnCpuBus : Instr → Prop
  | .read _ _ | .write _ _ | .dbgRead _ | .dbgWrite _ _ | .getOpenBus _ | .m15Mode0 _ _ | .m15Mode1 _ _ | .m15Mode2 _ _
  | .m15Mode3 _ _ => True
  | _ => False

/-- The transactions of the VRAM bus. -/
def Instr.OnVramBus : Instr → Prop
  | .readVram _ _ | .writeVram _ _ | .dbgReadVram _ | .toAbsChr _ => True
  | _ => False

/-- The transactions that end the Setup phase: all but REGISTER and the reserved codes (R225, log 8). -/
def Instr.EndsSetup : Instr → Prop
  | .register _ | .reservedE | .reservedF => False
  | _ => True

end Sys2Proof

namespace Sys2Proof.Machine

/-- What `i` on the CPU bus may change: the latch only where `i` does not keep it. -/
def CpuBusChanges (i : Instr) (s t : State) : Prop :=
  ∃ ram calls slots mode answers draws latch trace result,
    (keepsLatch i → latch = s.openBus) ∧
    t = { s with
      phase := .running, ram := ram, deviceLog := calls, prgSlot := slots, mirroring := mode, answers := answers,
      draws := draws, openBus := latch, trace := trace, results := s.results ++ [result] }

/-- What a transaction of the VRAM bus may change; a recorded refusal is kept. -/
def VramBusChanges (s t : State) : Prop :=
  ∃ nt0 nt1 chrRam refused notes trace result,
    (∀ r, s.refused = some r → refused = some r) ∧
    t = { s with
      phase := .running, nt0 := nt0, nt1 := nt1, chrRam := chrRam, refused := refused, notifyLog := notes,
      trace := trace, results := s.results ++ [result] }

/-- What every transaction `i` that ends Setup leaves of the block's configuration, records and latch. -/
structure Transacted (i : Instr) (s t : State) : Prop where
  phase : t.phase = .running
  cfg : t.cfg = s.cfg
  readTable : t.readTable = s.readTable
  writeTable : t.writeTable = s.writeTable
  cfgFault : t.cfgFault = s.cfgFault
  refused : ∀ r, s.refused = some r → t.refused = some r
  result : ∃ r, t.results = s.results ++ [r]
  openBus : keepsLatch i → t.openBus = s.openBus

/-! ## The CPU bus -/

theorem exec_write_changes {s : State} (hp : s.phase ≠ .failed) (a : Addr) (v : Byte) :
    ∃ t, exec (.write a v) s = .next t ∧ CpuBusChanges (.write a v) s t := by
  obtain ⟨ram, calls, slots, mode, hr⟩ := s.routeWrite_shape a v
  have hexec := exec_write_of_route hp hr
  exact ⟨_, hexec, _, _, _, _, _, _, _, _, _, fun _ => rfl, rfl⟩

theorem exec_onCpuBus {s : State} {i : Instr} (hi : i.OnCpuBus) (hp : s.phase ≠ .failed) :
    ∃ t, exec i s = .next t ∧ CpuBusChanges i s t := by
  cases i with
  | read a kind =>
    obtain ⟨raw, calls, answers, draws, hr⟩ := s.cpuRoute_shape a
    have hexec := exec_read_of_route kind hp hr
    exact ⟨_, hexec, _, _, _, _, _, _, _, _, _, False.elim, rfl⟩
  | dbgRead a =>
    obtain ⟨raw, calls, answers, draws, hr⟩ := s.cpuRoute_shape a
    have hexec := exec_dbgRead_of_route hp hr
    exact ⟨_, hexec, _, _, _, _, _, _, _, _, _, fun _ => rfl, rfl⟩
  | write a v => exact exec_write_changes hp a v
  | dbgWrite a v =>
    obtain ⟨ram, calls, slots, mode, hr⟩ := s.routeWrite_shape a v
    have hexec := exec_dbgWrite_of_route hp hr
    exact ⟨_, hexec, _, _, _, _, _, _, _, _, _, fun _ => rfl, rfl⟩
  | getOpenBus mask =>
    exact ⟨_, getOpenBusMasksTheLatch s mask hp, _, _, _, _, _, _, _, _, _, fun _ => rfl, rfl⟩
  | m15Mode0 mid v => exact (mapper15RowsAreWrites s mid v).1 ▸ exec_write_changes hp _ v
  | m15Mode1 mid v => exact (mapper15RowsAreWrites s mid v).2.1 ▸ exec_write_changes hp _ v
  | m15Mode2 mid v => exact (mapper15RowsAreWrites s mid v).2.2.1 ▸ exec_write_changes hp _ v
  | m15Mode3 mid v => exact (mapper15RowsAreWrites s mid v).2.2.2 ▸ exec_write_changes hp _ v
  | _ => exact hi.elim

/-! ## The VRAM bus -/

/-- A refusal keeps the reason recorded first (R28). -/
theorem State.refuse_keeps (s : State) (r r' : RefuseReason) (h : s.refused = some r) :
    (s.refuse r').refused = some r := by
  rw [State.refuse_refused, h, Option.some_or]

/-- A refused VRAM access. -/
theorem vramBusChanges_refuse (s : State) (r : RefuseReason) :
    VramBusChanges s (State.refuse r { s with phase := .running }) :=
  ⟨_, _, _, _, _, _, _, fun r' => State.refuse_keeps s r' r, rfl⟩

theorem exec_onVramBus {s : State} {i : Instr} (hi : i.OnVramBus) (hp : s.phase ≠ .failed) :
    ∃ t, exec i s = .next t ∧ VramBusChanges s t := by
  cases i with
  | readVram a kind =>
    cases hv : s.mapperReadVram (normVram a) with
    | some v => exact ⟨_, exec_readVram_of_byte kind hp hv, _, _, _, _, _, _, _, fun _ => id, rfl⟩
    | none => exact ⟨_, exec_readVram_of_noMap kind hp hv, vramBusChanges_refuse s _⟩
  | dbgReadVram a =>
    cases hv : s.mapperReadVram (normVram a) with
    | some v => exact ⟨_, exec_dbgReadVram_of_byte hp hv, _, _, _, _, _, _, _, fun _ => id, rfl⟩
    | none => exact ⟨_, exec_dbgReadVram_of_noMap hp hv, vramBusChanges_refuse s _⟩
  | writeVram a v =>
    cases hw : s.mapperWriteVram (normVram a) v with
    | some u =>
      have hexec := exec_writeVram_of_write hp hw
      obtain ⟨nt0, nt1, chrRam, rfl⟩ := State.mapperWriteVram_changes hw
      exact ⟨_, hexec, _, _, _, _, _, _, _, fun _ => id, rfl⟩
    | none => exact ⟨_, exec_writeVram_of_noMap hp hw, vramBusChanges_refuse s _⟩
  | toAbsChr a => exact ⟨_, toAbsChrGivesTheOffset s a hp, _, _, _, _, _, _, _, fun _ => id, rfl⟩
  | _ => exact hi.elim

/-- Settles O36: neither bus's changes name a field of the other. -/
theorem busesAreSeparate : Obligations.BusesAreSeparate := by
  intro s t i ht
  refine ⟨fun hi => ?vram, fun hi => ?cpu⟩
  case vram =>
    have honVram : i.OnVramBus := by
      rcases hi with ⟨a, k, rfl⟩ | ⟨a, v, rfl⟩ | ⟨a, rfl⟩ | ⟨a, rfl⟩ <;> trivial
    obtain ⟨nt0, nt1, chrRam, refused, notes, trace, result, -, rfl⟩ :=
      exec_next_property (exec_onVramBus honVram (exec_next_phase ht)) ht
    exact ⟨rfl, rfl, rfl, rfl, rfl, rfl, rfl⟩
  case cpu =>
    have honCpu : i.OnCpuBus := by
      rcases hi with ⟨a, k, rfl⟩ | ⟨a, v, rfl⟩ | ⟨a, rfl⟩ | ⟨a, v, rfl⟩ | ⟨m, rfl⟩ |
        ⟨m, v, rfl | rfl | rfl | rfl⟩ <;> trivial
    obtain ⟨ram, calls, slots, mode, answers, draws, latch, trace, result, -, rfl⟩ :=
      exec_next_property (exec_onCpuBus honCpu (exec_next_phase ht)) ht
    exact ⟨rfl, rfl, rfl, rfl, rfl⟩

/-! ## Every transaction that ends Setup -/

theorem CpuBusChanges.transacted {s t : State} {i : Instr} (h : CpuBusChanges i s t) : Transacted i s t := by
  obtain ⟨ram, calls, slots, mode, answers, draws, latch, trace, result, hlatch, rfl⟩ := h
  exact ⟨rfl, rfl, rfl, rfl, rfl, fun _ => id, ⟨_, rfl⟩, hlatch⟩

theorem VramBusChanges.transacted {s t : State} (i : Instr) (h : VramBusChanges s t) : Transacted i s t := by
  obtain ⟨nt0, nt1, chrRam, refused, notes, trace, result, hkept, rfl⟩ := h
  exact ⟨rfl, rfl, rfl, rfl, rfl, hkept, ⟨_, rfl⟩, fun _ => rfl⟩

theorem exec_restore_transacted {s : State} (hp : s.phase ≠ .failed) :
    ∃ t, exec .restore s = .next t ∧ Transacted .restore s t := by
  cases hs : s.streams with
  | nil =>
    exact ⟨_, exec_restore_of_noStream hp hs,
      ⟨rfl, rfl, rfl, rfl, rfl, fun r => State.refuse_keeps s r _, ⟨_, rfl⟩, fun _ => rfl⟩⟩
  | cons st rest =>
    by_cases hwf : Stream.wellFormed s.cfg st
    · exact ⟨_, exec_restore_of_wellFormed hp hs hwf,
        ⟨rfl, rfl, rfl, rfl, rfl, fun _ => id, ⟨_, rfl⟩, fun _ => rfl⟩⟩
    · exact ⟨_, exec_restore_of_malformed hp hs hwf,
        ⟨rfl, rfl, rfl, rfl, rfl, fun r => State.refuse_keeps s r _, ⟨_, rfl⟩, fun _ => rfl⟩⟩

theorem exec_reset_transacted {s : State} (hp : s.phase ≠ .failed) (isSoft : Bool) :
    ∃ t, exec (.reset isSoft) s = .next t ∧ Transacted (.reset isSoft) s t := by
  cases isSoft with
  | true =>
    exact ⟨_, softResetKeepsMemory s hp, ⟨rfl, rfl, rfl, rfl, rfl, fun _ => id, ⟨_, rfl⟩, fun _ => rfl⟩⟩
  | false => exact ⟨_, exec_hardReset hp, ⟨rfl, rfl, rfl, rfl, rfl, fun _ => id, ⟨_, rfl⟩, nofun⟩⟩

theorem exec_transacted {s t : State} {i : Instr} (hi : i.EndsSetup) (ht : exec i s = .next t) : Transacted i s t := by
  have hp := exec_next_phase ht
  cases i
  case register | reservedE | reservedF => exact hi.elim
  case cpuClock =>
    exact exec_next_property
      ⟨_, cpuClockChangesNothing s hp, ⟨rfl, rfl, rfl, rfl, rfl, fun _ => id, ⟨_, rfl⟩, fun _ => rfl⟩⟩ ht
  case snapshot =>
    exact exec_next_property
      ⟨_, exec_snapshot hp, ⟨rfl, rfl, rfl, rfl, rfl, fun _ => id, ⟨_, rfl⟩, fun _ => rfl⟩⟩ ht
  case reset isSoft => exact exec_next_property (exec_reset_transacted hp isSoft) ht
  case restore => exact exec_next_property (exec_restore_transacted hp) ht
  case readVram | writeVram | dbgReadVram | toAbsChr =>
    exact (exec_next_property (exec_onVramBus (by trivial) hp) ht).transacted _
  all_goals exact (exec_next_property (exec_onCpuBus (by trivial) hp) ht).transacted

/-! ## Every instruction -/

/-- Everything an instruction that completes can be: a transaction that ends Setup, a refusal without a phase step
(log 8), or a registration. -/
theorem exec_cases {s t : State} {i : Instr} (ht : exec i s = .next t) :
    Transacted i s t ∨ (∃ r, t = s.refuse r) ∨
      ∃ index, i = .register index ∧ s.phase = .setup ∧ t = s.registerDevice (s.descriptorAt index) := by
  have hp := exec_next_phase ht
  have hrefuses {r : RefuseReason} (h : exec i s = .next (s.refuse r)) : ∃ r, t = s.refuse r :=
    ⟨r, (Host.Outcome.next.inj (h.symm.trans ht)).symm⟩
  cases i
  case register index =>
    cases hphase : s.phase with
    | failed => exact absurd hphase hp
    | running => exact .inr (.inl (hrefuses (exec_register_of_running index hphase)))
    | setup =>
      have hnext := (exec_register_of_setup index hphase).symm.trans ht
      exact .inr (.inr ⟨index, rfl, rfl, (Host.Outcome.next.inj hnext).symm⟩)
  case reservedE => exact .inr (.inl (hrefuses (exec_reserved hp (.inl rfl))))
  case reservedF => exact .inr (.inl (hrefuses (exec_reserved hp (.inr rfl))))
  all_goals exact .inl (exec_transacted (by trivial) ht)

/-- Everything a registration can do: an error that is recorded and returned, or the device installed. -/
theorem State.registerDevice_cases (s : State) (d : Descriptor) :
    ∃ readTable writeTable,
      (∃ f, s.registerDevice d = { s with
        readTable := readTable, writeTable := writeTable, phase := .failed, cfgFault := some f
        results := s.results ++ [.configurationError f] }) ∨
      s.registerDevice d = { s with
        readTable := readTable, writeTable := writeTable, results := s.results ++ [.ok] } := by
  cases hread : conflictOf s.readTable d.readAddresses d.allowOverride with
  | some a => exact ⟨_, _, .inl ⟨_, State.registerDevice_of_readConflict hread⟩⟩
  | none =>
    cases hwrite : conflictOf s.writeTable d.writeAddresses d.allowOverride with
    | some a => exact ⟨_, _, .inl ⟨_, State.registerDevice_of_writeConflict hread hwrite⟩⟩
    | none => exact ⟨_, _, .inr (State.registerDevice_of_noConflict hread hwrite)⟩

/-- Every instruction keeps the parameters and a recorded refusal, and appends one result. -/
theorem exec_keeps_records {s t : State} {i : Instr} (ht : exec i s = .next t) :
    t.cfg = s.cfg ∧ (∀ r, s.refused = some r → t.refused = some r) ∧ ∃ r, t.results = s.results ++ [r] := by
  rcases exec_cases ht with h | ⟨r, rfl⟩ | ⟨index, -, -, rfl⟩
  · exact ⟨h.cfg, h.refused, h.result⟩
  · exact ⟨rfl, fun r' => State.refuse_keeps s r' r, _, rfl⟩
  · obtain ⟨reads, writes, ⟨f, he⟩ | he⟩ := s.registerDevice_cases (s.descriptorAt index) <;>
      rw [he] <;> exact ⟨rfl, fun _ => id, _, rfl⟩

/-- In Running every instruction stays there and keeps the tables (R227). -/
theorem exec_of_running {s t : State} {i : Instr} (hp : s.phase = .running) (ht : exec i s = .next t) :
    t.phase = .running ∧ t.readTable = s.readTable ∧ t.writeTable = s.writeTable := by
  rcases exec_cases ht with h | ⟨r, rfl⟩ | ⟨index, -, hsetup, -⟩
  · exact ⟨h.phase, h.readTable, h.writeTable⟩
  · exact ⟨hp, rfl, rfl⟩
  · rw [hp] at hsetup
    cases hsetup

/-! ## The lifecycle statements -/

/-- Settles O46: of the three kinds of `exec_cases` only a registration can reach Failed, and none reaches Setup. -/
theorem phasesChangeAsTheLifecycleSays : Obligations.PhasesChangeAsTheLifecycleSays := by
  intro s t i ht
  have hp := exec_next_phase ht
  refine ⟨fun hreg hE hF => ?_, ?_⟩
  · have hi : i.EndsSetup := by
      cases i
      case register index => exact hreg index rfl
      case reservedE => exact hE rfl
      case reservedF => exact hF rfl
      all_goals trivial
    exact (exec_transacted hi ht).phase
  · rcases exec_cases ht with h | ⟨r, rfl⟩ | ⟨index, rfl, hsetup, rfl⟩
    · rw [h.phase]
      exact ⟨nofun, nofun⟩
    · exact ⟨id, fun hfailed => (hp hfailed).elim⟩
    · obtain ⟨reads, writes, ⟨f, he⟩ | he⟩ := s.registerDevice_cases (s.descriptorAt index) <;> rw [he]
      · exact ⟨fun _ => hsetup, fun _ => ⟨hsetup, ⟨index, rfl⟩, f, rfl, rfl⟩⟩
      · exact ⟨fun _ => hsetup, fun hfailed => (hp hfailed).elim⟩

/-- Settles O47: an idle step changes nothing; an instruction in Running is `exec_of_running`. -/
theorem runningKeepsTheTables : Obligations.RunningKeepsTheTables := by
  intro s t hp ht
  rcases step_next ht with ⟨-, -, rfl⟩ | ⟨w, rest, -, hexec⟩
  · exact ⟨hp, rfl, rfl⟩
  · exact exec_of_running (s := { s with pending := rest }) hp hexec

/-- Settles O48: the first refusal is kept by every instruction; under the invariant a state that steps has no
fault. -/
theorem recordsAreSetOnce : Obligations.RecordsAreSetOnce := by
  intro s t hinv ht
  have hnone : s.phase ≠ .failed → s.cfgFault = none := fun hp => by
    rw [← Option.not_isSome_iff_eq_none, hinv.record.cfgFault]
    exact hp
  rcases step_next ht with ⟨-, hp, rfl⟩ | ⟨w, rest, -, hexec⟩
  · exact ⟨fun _ => id, fun _ => hnone hp⟩
  · obtain ⟨-, hrefused, -⟩ := exec_keeps_records hexec
    exact ⟨hrefused, fun _ => hnone (exec_next_phase (s := { s with pending := rest }) hexec)⟩

/-! ## The latch -/

/-- The instructions that leave the latch alone do so (R25). -/
theorem exec_keepsLatch {s t : State} {i : Instr} (hi : keepsLatch i) (ht : exec i s = .next t) :
    t.openBus = s.openBus := by
  rcases exec_cases ht with h | ⟨r, rfl⟩ | ⟨index, -, -, rfl⟩
  · exact h.openBus hi
  · rfl
  · obtain ⟨reads, writes, ⟨f, he⟩ | he⟩ := s.registerDevice_cases (s.descriptorAt index) <;> rw [he]

/-- In Running a run of such instructions keeps the latch and stays in Running. -/
theorem execAll_keepsLatch {is : List Instr} {s t : State} (hp : s.phase = .running) (his : ∀ i ∈ is, keepsLatch i)
    (ht : execAll is s = .next t) : t.phase = .running ∧ t.openBus = s.openBus := by
  induction is generalizing s with
  | nil =>
    obtain rfl := Host.Outcome.next.inj ht
    exact ⟨hp, rfl⟩
  | cons i is ih =>
    obtain ⟨u, hu⟩ := exec_total i (s := s) (by simp [hp])
    rw [execAll, hu] at ht
    obtain ⟨hphase, hlatch⟩ := ih (exec_of_running hp hu).1 (fun j hj => his j (List.mem_cons_of_mem i hj)) ht
    exact ⟨hphase, hlatch.trans (exec_keepsLatch (his i List.mem_cons_self) hu)⟩

/-- Settles O12: the first READ leaves its byte in the latch, the run between keeps it, the second READ finds it
there. -/
theorem openBusKeepsTheLastRead : Obligations.OpenBusKeepsTheLastRead := by
  intro s t u m a kind kind' between v ht hv hbetween hu hunmapped
  obtain ⟨raw, w, hr⟩ : ∃ raw w, s.cpuRoute m = (raw, w) := ⟨_, _, rfl⟩
  obtain rfl := Host.Outcome.next.inj ((exec_read_of_route kind (exec_next_phase ht) hr).symm.trans ht)
  obtain ⟨hphase, hlatch⟩ := execAll_keepsLatch rfl hbetween hu
  have hbyte : u.openBus = v := by
    rw [hlatch]
    simpa using hv
  refine ⟨_, exec_read_of_route kind' (by simp [hphase]) (State.cpuRoute_of_unmapped hunmapped), ?_⟩
  rw [hbyte]

end Sys2Proof.Machine
end

section
/-! What no instruction reads (spec/10_state.md R29, spec/45_snapshot.md R244): other log entries in front of a
state's own and another latch change neither what an instruction appends nor what it leaves, as long as it does not
show the latch. -/

namespace Sys2Proof.Machine

/-- The state with the log entries of `l` in front of its own, and with the given latch. -/
def State.dress (l : State) (latch : Byte) (s : State) : State :=
  { s with
    trace := l.trace ++ s.trace
    deviceLog := l.deviceLog ++ s.deviceLog
    notifyLog := l.notifyLog ++ s.notifyLog
    results := l.results ++ s.results
    openBus := latch }

/-- Every state is its own logs and latch on the state without them. -/
theorem State.dress_withoutLogs (s : State) : State.dress s s.openBus s.withoutLogs = s := by
  simp [State.dress, State.withoutLogs]

/-! ## The operations -/

section
variable (l s : State) (latch : Byte)

/-- Results and events are appended behind the entries in front. -/
theorem State.dress_answer (r : TxnResult) : (State.dress l latch s).answer r = State.dress l latch (s.answer r) := by
  simp [State.dress, State.answer]

theorem State.dress_refuse (r : RefuseReason) : (State.dress l latch s).refuse r = State.dress l latch (s.refuse r) :=
  State.dress_answer l (s.recordRefusal r) latch (.refused r)

/-- A CPU read's route does not look at the logs, nor at the latch unless it is the open-bus path. -/
theorem State.dress_cpuRoute {a : Addr} (h : ¬ s.ReadUnmapped a ∨ latch = s.openBus) :
    (State.dress l latch s).cpuRoute a = ((s.cpuRoute a).1, State.dress l latch (s.cpuRoute a).2) := by
  cases hram : isRamAddr a with
  | true => simp only [State.cpuRoute, hram, if_true]; rfl
  | false =>
    cases hlookup : s.readTable.lookup a with
    | none =>
      have hlatch : latch = s.openBus := h.resolve_left (not_not_intro ⟨hram, hlookup⟩)
      rw [State.cpuRoute_of_unmapped (s := s) ⟨hram, hlookup⟩,
        State.cpuRoute_of_unmapped (s := State.dress l latch s) ⟨hram, hlookup⟩, hlatch]
      rfl
    | some handler =>
      have ha := (isRamAddr_false_iff a).1 hram
      rw [State.cpuRoute_of_handler ha hlookup, State.cpuRoute_of_handler (s := State.dress l latch s) ha hlookup]
      cases handler with
      | mapper =>
        simp only [State.handlerRead, State.mapperCpuRead]
        split <;> rfl
      | device d => 
        simp only [State.handlerRead, State.deviceAnswer]
        cases hanswers : s.answers <;> simp [State.dress, hanswers, State.deviceCalled]

/-- A CPU write's routing looks at neither. -/
theorem State.dress_routeWrite (a : Addr) (v : Byte) :
    (State.dress l latch s).routeWrite (State.writeRegister a v) a v =
      State.dress l latch (s.routeWrite (State.writeRegister a v) a v) := by
  have htable : (State.dress l latch s).writeTable = s.writeTable := rfl
  simp only [State.routeWrite, State.writeRegister_eq, htable]
  split
  · rfl
  · cases s.writeTable.lookup a with
    | none => rfl
    | some handler =>
      cases handler with
      | mapper => rfl
      | device d => simp [State.dress, State.deviceCalled]

/-- A VRAM write looks at neither. -/
theorem State.dress_mapperWriteVram (n : Addr) (v : Byte) :
    (State.dress l latch s).mapperWriteVram n v = (s.mapperWriteVram n v).map (State.dress l latch) := by
  have htable : (State.dress l latch s).nametableOf n = s.nametableOf n := rfl
  simp only [State.mapperWriteVram, htable]
  split
  · unfold State.setChr
    cases hchr : s.cfg.chrWritable <;> simp [State.dress, State.chrIndex, hchr]
  · cases s.nametableOf n with
    | none => rfl
    | some page =>
      simp only [State.setNt, Option.map_some]
      split <;> rfl

/-- A registration looks at neither. -/
theorem State.dress_registerDevice (d : Descriptor) :
    (State.dress l latch s).registerDevice d = State.dress l latch (s.registerDevice d) := by
  cases hread : conflictOf s.readTable d.readAddresses d.allowOverride with
  | some a =>
    rw [State.registerDevice_of_readConflict hread,
      State.registerDevice_of_readConflict (s := State.dress l latch s) hread]
    simp [State.dress]
  | none =>
    cases hwrite : conflictOf s.writeTable d.writeAddresses d.allowOverride with
    | some a =>
      rw [State.registerDevice_of_writeConflict hread hwrite,
        State.registerDevice_of_writeConflict (s := State.dress l latch s) hread hwrite]
      simp [State.dress]
    | none =>
      rw [State.registerDevice_of_noConflict hread hwrite,
        State.registerDevice_of_noConflict (s := State.dress l latch s) hread hwrite]
      simp [State.dress]

end

/-! ## The instructions -/

/-- `i` completes on `s`, and on the dressed `s` with the same entries appended; the latch is the one it sets, or
the one it found where it keeps it. -/
def RunsDressed (l : State) (latch : Byte) (i : Instr) (s : State) : Prop :=
  ∃ t after, exec i s = .next t ∧ exec i (State.dress l latch s) = .next (State.dress l after t) ∧
    (after = t.openBus ∨ after = latch ∧ keepsLatch i)

section
variable (l : State) {s : State} {latch : Byte} (hp : s.phase ≠ .failed)

/-- Where `i` keeps the latch it is enough to compare the two next states. -/
theorem runsDressed_of_next {i : Instr} {t u : State} (hi : keepsLatch i) (ht : exec i s = .next t)
    (hu : exec i (State.dress l latch s) = .next u) (h : u = State.dress l latch t) : RunsDressed l latch i s :=
  ⟨t, latch, ht, h ▸ hu, .inr ⟨rfl, hi⟩⟩

include hp

theorem runsDressed_read {a : Addr} (kind : AccessKind) (h : ¬ s.ReadUnmapped a ∨ latch = s.openBus) :
    RunsDressed l latch (.read a kind) s := by
  obtain ⟨raw, u, hr⟩ : ∃ raw u, s.cpuRoute a = (raw, u) := ⟨_, _, rfl⟩
  have hdressed := State.dress_cpuRoute l s latch h
  rw [hr] at hdressed
  exact ⟨_, _, exec_read_of_route kind hp hr,
    (exec_read_of_route (s := State.dress l latch s) kind hp hdressed).trans (by simp [State.dress, State.patch]),
    .inl rfl⟩

theorem runsDressed_dbgRead {a : Addr} (h : ¬ s.ReadUnmapped a ∨ latch = s.openBus) :
    RunsDressed l latch (.dbgRead a) s := by
  obtain ⟨raw, u, hr⟩ : ∃ raw u, s.cpuRoute a = (raw, u) := ⟨_, _, rfl⟩
  have hdressed := State.dress_cpuRoute l s latch h
  rw [hr] at hdressed
  exact runsDressed_of_next l trivial (exec_dbgRead_of_route hp hr)
    (exec_dbgRead_of_route (s := State.dress l latch s) hp hdressed) (by simp [State.dress, State.patch])

theorem runsDressed_write (a : Addr) (v : Byte) : RunsDressed l latch (.write a v) s :=
  runsDressed_of_next l trivial (exec_write_of_route hp rfl)
    (exec_write_of_route (s := State.dress l latch s) hp (State.dress_routeWrite l s latch a v))
    (by simp only [State.dress, List.append_assoc])

theorem runsDressed_dbgWrite (a : Addr) (v : Byte) : RunsDressed l latch (.dbgWrite a v) s :=
  runsDressed_of_next l trivial (exec_dbgWrite_of_route hp rfl)
    (exec_dbgWrite_of_route (s := State.dress l latch s) hp (State.dress_routeWrite l s latch a v))
    (by simp only [State.dress, List.append_assoc])

/-- A Mapper15 row is a WRITE in the dressed state too. -/
theorem runsDressed_m15 {a : Addr} {v : Byte} {i : Instr} (hi : ∀ s, exec i s = exec (.write a v) s)
    (hk : keepsLatch i) : RunsDressed l latch i s := by
  obtain ⟨t, after, ht, hu, hafter⟩ := runsDressed_write l (latch := latch) hp a v
  exact ⟨t, after, (hi s).trans ht, (hi _).trans hu, hafter.imp_right fun h => ⟨h.1, hk⟩⟩

theorem runsDressed_readVram (a : Addr) (kind : AccessKind) : RunsDressed l latch (.readVram a kind) s := by
  cases hv : s.mapperReadVram (normVram a) with
  | some v =>
    exact runsDressed_of_next l trivial (exec_readVram_of_byte kind hp hv)
      (exec_readVram_of_byte (s := State.dress l latch s) kind hp hv) (by simp only [State.dress, List.append_assoc])
  | none =>
    exact runsDressed_of_next l trivial (exec_readVram_of_noMap kind hp hv)
      (exec_readVram_of_noMap (s := State.dress l latch s) kind hp hv)
      (State.dress_refuse l { s with phase := .running } latch _)

theorem runsDressed_dbgReadVram (a : Addr) : RunsDressed l latch (.dbgReadVram a) s := by
  cases hv : s.mapperReadVram (normVram a) with
  | some v =>
    exact runsDressed_of_next l trivial (exec_dbgReadVram_of_byte hp hv)
      (exec_dbgReadVram_of_byte (s := State.dress l latch s) hp hv) (by simp only [State.dress, List.append_assoc])
  | none =>
    exact runsDressed_of_next l trivial (exec_dbgReadVram_of_noMap hp hv)
      (exec_dbgReadVram_of_noMap (s := State.dress l latch s) hp hv)
      (State.dress_refuse l { s with phase := .running } latch _)

theorem runsDressed_writeVram (a : Addr) (v : Byte) : RunsDressed l latch (.writeVram a v) s := by
  have hdressed := State.dress_mapperWriteVram l s latch (normVram a) v
  cases hw : s.mapperWriteVram (normVram a) v with
  | some u =>
    rw [hw] at hdressed
    exact runsDressed_of_next l trivial (exec_writeVram_of_write hp hw)
      (exec_writeVram_of_write (s := State.dress l latch s) hp hdressed) (by simp only [State.dress, List.append_assoc])
  | none =>
    rw [hw] at hdressed
    exact runsDressed_of_next l trivial (exec_writeVram_of_noMap hp hw)
      (exec_writeVram_of_noMap (s := State.dress l latch s) hp hdressed)
      (State.dress_refuse l { s with phase := .running } latch _)

theorem runsDressed_getOpenBus (mask : Byte) (h : latch = s.openBus) : RunsDressed l latch (.getOpenBus mask) s :=
  runsDressed_of_next l trivial (getOpenBusMasksTheLatch s mask hp)
    (getOpenBusMasksTheLatch (State.dress l latch s) mask hp) (by simp [State.dress, h])

theorem runsDressed_reset (isSoft : Bool) : RunsDressed l latch (.reset isSoft) s := by
  cases isSoft with
  | true =>
    exact runsDressed_of_next l rfl (softResetKeepsMemory s hp) (softResetKeepsMemory (State.dress l latch s) hp)
      (by simp only [State.dress, List.append_assoc])
  | false =>
    have hdressed := exec_hardReset (s := State.dress l latch s) hp
    simp only [State.dress, List.append_assoc] at hdressed
    exact ⟨_, _, exec_hardReset hp, hdressed, .inl rfl⟩

theorem runsDressed_restore : RunsDressed l latch .restore s := by
  cases hs : s.streams with
  | nil =>
    exact runsDressed_of_next l trivial (exec_restore_of_noStream hp hs)
      (exec_restore_of_noStream (s := State.dress l latch s) hp hs)
      (State.dress_refuse l { s with phase := .running } latch _)
  | cons st rest =>
    by_cases hwf : Stream.wellFormed s.cfg st
    · exact runsDressed_of_next l trivial (exec_restore_of_wellFormed hp hs hwf)
        (exec_restore_of_wellFormed (s := State.dress l latch s) hp hs hwf)
        (State.dress_answer l (State.loadStream st { s with phase := .running, streams := rest }) latch _)
    · exact runsDressed_of_next l trivial (exec_restore_of_malformed hp hs hwf)
        (exec_restore_of_malformed (s := State.dress l latch s) hp hs hwf)
        (State.dress_refuse l { s with phase := .running, streams := rest } latch _)

theorem runsDressed_register (index : BitVec 8) : RunsDressed l latch (.register index) s := by
  cases hphase : s.phase with
  | failed => exact absurd hphase hp
  | running =>
    exact runsDressed_of_next l trivial (exec_register_of_running index hphase)
      (exec_register_of_running (s := State.dress l latch s) index hphase) (State.dress_refuse l s latch _)
  | setup =>
    exact runsDressed_of_next l trivial (exec_register_of_setup index hphase)
      (exec_register_of_setup (s := State.dress l latch s) index hphase) (State.dress_registerDevice l s latch _)

theorem runsDressed_reserved {i : Instr} (hi : i = .reservedE ∨ i = .reservedF) : RunsDressed l latch i s :=
  runsDressed_of_next l (by rcases hi with rfl | rfl <;> trivial) (exec_reserved hp hi)
    (exec_reserved (s := State.dress l latch s) hp hi) (State.dress_refuse l s latch _)

/-- Every instruction that does not show the latch, or finds the same one. -/
theorem runsDressed {i : Instr} (h : ¬ s.showsLatch i ∨ latch = s.openBus) : RunsDressed l latch i s := by
  cases i with
  | read a kind => exact runsDressed_read l hp kind h
  | dbgRead a => exact runsDressed_dbgRead l hp h
  | write a v => exact runsDressed_write l hp a v
  | dbgWrite a v => exact runsDressed_dbgWrite l hp a v
  | readVram a kind => exact runsDressed_readVram l hp a kind
  | writeVram a v => exact runsDressed_writeVram l hp a v
  | dbgReadVram a => exact runsDressed_dbgReadVram l hp a
  | getOpenBus mask => exact runsDressed_getOpenBus l hp mask (h.resolve_left (not_not_intro trivial))
  | toAbsChr a =>
    exact runsDressed_of_next l trivial (toAbsChrGivesTheOffset s a hp)
      (toAbsChrGivesTheOffset (State.dress l latch s) a hp) (State.dress_answer l { s with phase := .running } latch _)
  | cpuClock =>
    exact runsDressed_of_next l trivial (cpuClockChangesNothing s hp)
      (cpuClockChangesNothing (State.dress l latch s) hp) (by simp only [State.dress, List.append_assoc])
  | reset isSoft => exact runsDressed_reset l hp isSoft
  | register index => exact runsDressed_register l hp index
  | snapshot =>
    exact runsDressed_of_next l trivial (exec_snapshot hp) (exec_snapshot (s := State.dress l latch s) hp)
      (State.dress_answer l { s with phase := .running } latch _)
  | restore => exact runsDressed_restore l hp
  | reservedE => exact runsDressed_reserved l hp (.inl rfl)
  | reservedF => exact runsDressed_reserved l hp (.inr rfl)
  | m15Mode0 mid v => exact runsDressed_m15 l hp (fun s => (mapper15RowsAreWrites s mid v).1) trivial
  | m15Mode1 mid v => exact runsDressed_m15 l hp (fun s => (mapper15RowsAreWrites s mid v).2.1) trivial
  | m15Mode2 mid v => exact runsDressed_m15 l hp (fun s => (mapper15RowsAreWrites s mid v).2.2.1) trivial
  | m15Mode3 mid v => exact runsDressed_m15 l hp (fun s => (mapper15RowsAreWrites s mid v).2.2.2) trivial

end

/-! ## The logs (R29) -/

/-- What an instruction does is what it does on the state without logs, behind the state's own entries. -/
theorem exec_behind_logs {s : State} (hp : s.phase ≠ .failed) (i : Instr) :
    ∃ t, exec i s.withoutLogs = .next t ∧ exec i s = .next (State.dress s t.openBus t) := by
  obtain ⟨t, after, ht, hs, hafter⟩ :=
    runsDressed s (s := s.withoutLogs) (latch := s.openBus) hp (i := i) (.inr rfl)
  rw [State.dress_withoutLogs] at hs
  have hlatch : after = t.openBus := by
    rcases hafter with h | ⟨h, hkeeps⟩
    · exact h
    · exact h.trans (exec_keepsLatch hkeeps ht).symm
  exact ⟨t, ht, hlatch ▸ hs⟩

/-- Settles O49: the entries before stand in front of those an instruction appends (`exec_behind_logs`). -/
theorem stepsKeepParametersAndGrowLogs : Obligations.StepsKeepParametersAndGrowLogs := by
  intro s t ht
  rcases step_next ht with ⟨-, -, rfl⟩ | ⟨w, rest, -, hexec⟩
  · exact ⟨rfl, List.prefix_rfl, List.prefix_rfl, List.prefix_rfl, List.prefix_rfl⟩
  · obtain ⟨u, -, hu⟩ := exec_behind_logs (exec_next_phase hexec) (decode w)
    obtain ⟨hcfg, -, -⟩ := exec_keeps_records hexec
    obtain rfl := Host.Outcome.next.inj (hu.symm.trans hexec)
    exact ⟨hcfg, ⟨_, rfl⟩, ⟨_, rfl⟩, ⟨_, rfl⟩, ⟨_, rfl⟩⟩

/-- Settles O50: both states append what the one state without logs appends. -/
theorem logsAreNeverRead : Obligations.LogsAreNeverRead := by
  intro s u h
  have hphase : u.phase = s.phase := (congrArg State.phase h).symm
  have hpending : u.pending = s.pending := (congrArg State.pending h).symm
  by_cases hp : s.phase = .failed
  · exact .inr ⟨(failedHasNoStep s hp).1, (failedHasNoStep u (hphase.trans hp)).1⟩
  · left
    cases hwords : s.pending with
    | nil =>
      refine ⟨s, u, [], [], [], [], ?_, ?_, h, by simp⟩
      · simp [step_of_noPending hwords, State.idle, hp]
      · simp [step_of_noPending (hpending.trans hwords), State.idle, hphase, hp]
    | cons word rest =>
      rw [step_of_pending hwords, step_of_pending (hpending.trans hwords)]
      have hrest : State.withoutLogs { s with pending := rest } = State.withoutLogs { u with pending := rest } :=
        congrArg (fun c : State => { c with pending := rest }) h
      obtain ⟨t, ht, hs⟩ := exec_behind_logs (s := { s with pending := rest }) hp (decode word)
      obtain ⟨w, hw, hu⟩ := exec_behind_logs (s := { u with pending := rest }) (hphase ▸ hp) (decode word)
      rw [← hrest, ht] at hw
      obtain rfl := Host.Outcome.next.inj hw
      exact ⟨_, _, t.trace, t.deviceLog, t.notifyLog, t.results, hs, hu, rfl, rfl, rfl, rfl, rfl, rfl, rfl, rfl,
        rfl⟩

/-! ## The latch (R244) -/

/-- A state equal to another up to the logs and the latch is its own logs and latch on the other without logs. -/
theorem State.dress_of_sameUpToLatch {s u : State} (h : s.withoutLatch = u.withoutLatch) :
    State.dress u u.openBus s.withoutLogs = u :=
  calc State.dress u u.openBus s.withoutLogs
      = State.dress u u.openBus s.withoutLatch := rfl
    _ = State.dress u u.openBus u.withoutLatch := by rw [h]
    _ = State.dress u u.openBus u.withoutLogs := rfl
    _ = u := u.dress_withoutLogs

/-- On two states equal up to the logs and the latch, an instruction that does not show the latch does what it does
on the state without logs, behind each one's entries; the latches after are both the one it sets, or each the one it
found. -/
theorem exec_sameUpToLatch {s u : State} {i : Instr} (hp : s.phase ≠ .failed) (h : s.withoutLatch = u.withoutLatch)
    (hi : ¬ s.showsLatch i) :
    ∃ t latch latch', exec i s.withoutLogs = .next t ∧ exec i s = .next (State.dress s latch t) ∧
      exec i u = .next (State.dress u latch' t) ∧ (latch = latch' ∨ keepsLatch i) := by
  have hshows : ¬ s.withoutLogs.showsLatch i := by
    cases i <;> exact hi
  obtain ⟨t, latch, ht, hs, hlatch⟩ := runsDressed s (s := s.withoutLogs) (latch := s.openBus) hp (.inl hshows)
  obtain ⟨w, latch', hw, hu, hlatch'⟩ := runsDressed u (s := s.withoutLogs) (latch := u.openBus) hp (.inl hshows)
  obtain rfl := Host.Outcome.next.inj (ht.symm.trans hw)
  rw [State.dress_withoutLogs] at hs
  rw [State.dress_of_sameUpToLatch h] at hu
  refine ⟨t, latch, latch', ht, hs, hu, ?_⟩
  rcases hlatch with rfl | ⟨-, hkeeps⟩
  · exact hlatch'.imp Eq.symm And.right
  · exact .inr hkeeps

/-- An instruction that shows the latch changes the phase, the trace, the latch and the results alone. -/
theorem exec_showsLatch {s : State} {i : Instr} (hp : s.phase ≠ .failed) (hi : s.showsLatch i) :
    ∃ trace latch r, exec i s = .next { s with
      phase := .running, trace := trace, openBus := latch, results := s.results ++ [r] } := by
  cases i
  case read a kind => exact ⟨_, _, _, exec_read_of_route kind hp (State.cpuRoute_of_unmapped hi)⟩
  case dbgRead a => exact ⟨_, _, _, exec_dbgRead_of_route hp (State.cpuRoute_of_unmapped hi)⟩
  case getOpenBus mask => exact ⟨_, _, _, getOpenBusMasksTheLatch s mask hp⟩
  all_goals exact hi.elim

/-- Settles O55: an instruction that shows the latch leaves all but logs and latch; any other runs behind the logs
of each. -/
theorem roundTripHoldsUpToTheLatch : Obligations.RoundTripHoldsUpToTheLatch := by
  intro s u i hp h
  by_cases hi : s.showsLatch i
  · have hphase : u.phase = s.phase := (congrArg State.phase h).symm
    have htable : u.readTable = s.readTable := (congrArg State.readTable h).symm
    have hiu : u.showsLatch i := by
      cases i
      case read | dbgRead => exact ⟨hi.1, htable ▸ hi.2⟩
      all_goals exact hi
    obtain ⟨trace, latch, r, hs⟩ := exec_showsLatch hp hi
    obtain ⟨trace', latch', r', hu⟩ := exec_showsLatch (hphase ▸ hp) hiu
    exact ⟨_, _, r, r', hs, hu, congrArg (fun c : State => { c with phase := .running }) h, rfl, rfl,
      fun hno => absurd hi hno⟩
  · obtain ⟨t, latch, latch', ht, hs, hu, -⟩ := exec_sameUpToLatch hp h hi
    obtain ⟨-, -, r, hr⟩ := exec_keeps_records ht
    have hresult : t.results = [r] := hr
    refine ⟨_, _, r, r, hs, hu, rfl, ?_, ?_, fun _ => rfl⟩
    · exact congrArg (s.results ++ ·) hresult
    · exact congrArg (u.results ++ ·) hresult

/-- Settles O56: a READ does not keep the latch, so both latches are the one it sets. -/
theorem mappedReadSettlesTheLatch : Obligations.MappedReadSettlesTheLatch := by
  intro s u a kind hp h ha
  obtain ⟨t, latch, latch', -, hs, hu, hlatch⟩ := exec_sameUpToLatch (i := .read a kind) hp h ha
  obtain rfl : latch = latch' := hlatch.resolve_right id
  exact ⟨_, _, hs, hu, rfl, rfl⟩

end Sys2Proof.Machine
end
